-- ==== Sys2Proof/Word.lean ====
section
/-! DEFINITION. The widths of the values of the block DRV (00_scope.md R8: every value is unsigned, bit 0 is the
least significant). -/

namespace Sys2Proof

/-- A byte: a mirror register, a device register, a duty, a frequency code (R8). -/
abbrev Byte := BitVec 8

/-- A command word or a response word (R80, R88). -/
abbrev CmdWord := BitVec 24

/-- The 16-bit error mask and the 16-bit result field (R28, R88). -/
abbrev Mask16 := BitVec 16

/-- A channel number 0..15 (R14, R82). -/
abbrev Channel := BitVec 4

/-- A device address on the bus (R7, R50). -/
abbrev DevAddr := BitVec 7

end Sys2Proof
end

