-- ==== Sys2Proof/Machine/Map.lean ====
section
/-! DEFINITION. The device register map (20_memory.md R54) and the fixed values of 00_scope.md R7. -/

namespace Sys2Proof.Machine

/-- ENABLE_REG (R55). -/
def enableReg : Byte := 0x00#8
/-- MODE_REG (R56). -/
def modeReg : Byte := 0x01#8
/-- `PWM_BASE`, the address of PWM[0] (R57). -/
def pwmBase : Byte := 0x02#8
/-- GRPDUTY_REG (R58). -/
def grpDutyReg : Byte := 0x12#8
/-- GRPFREQ_REG (R59). -/
def grpFreqReg : Byte := 0x13#8
/-- `LED_OUTPUT_BASE`, the address of LEDOUT[0] (R60). -/
def ledoutBase : Byte := 0x14#8
/-- EFLAG_LO (R61). -/
def eflagLoReg : Byte := 0x1D#8
/-- EFLAG_HI (R61). -/
def eflagHiReg : Byte := 0x1E#8

/-- The broadcast device address of SWRST (R62). -/
def swrstDev : DevAddr := 0x6B#7
/-- The register byte of SWRST, the first payload byte (R62). -/
def swrstReg : Byte := 0xA5#8
/-- The data byte of SWRST, the second payload byte (R62). -/
def swrstVal : Byte := 0x5A#8

/-- The byte ENABLE writes: the enable bit (R55, R91). -/
def enableByte : Byte := 0x80#8
/-- CLR, bit 7 of MODE_REG (R56). -/
def clrBit : Byte := 0x80#8
/-- BLINK, bit 5 of MODE_REG (R56). -/
def blinkBit : Byte := 0x20#8
/-- The maximum duty, which ASSIGNGRP writes (R57, R92). -/
def maxDuty : Byte := 0xFF#8
/-- `NO_ERRORS` (R7, R28). -/
def noErrors : Mask16 := 0xFFFF#16

/-- Whether a register is one of the four LEDOUT registers (R60). -/
def isLedoutReg (reg : Byte) : Bool := decide (0x14#8 ≤ reg ∧ reg ≤ 0x17#8)

/-- Whether a register is one of the two error-flag registers (R61). -/
def isFlagReg (reg : Byte) : Bool := reg == eflagLoReg || reg == eflagHiReg

/-- Whether the write of `v` to register `reg` clears the device's fault latch: MODE_REG with CLR 1 (R56, R66). -/
def clearsLatch (reg v : Byte) : Bool := reg == modeReg && v.getLsbD 7

/-- The number of a location of the address space (R50): the device address above the register address. -/
def loc (dev : DevAddr) (reg : Byte) : Nat := dev.toNat * 256 + reg.toNat

end Sys2Proof.Machine
end

