-- ==== Sys2Proof/Config.lean ====
section
/-! DEFINITION. What is fixed from outside the block: the parameters of 00_scope.md R7, the answers the environment
may give (R12, R13), and the free values that no proof can see. -/

namespace Sys2Proof

/-- The environment's answer to one transaction (R12, R51, R52).
A write reads `done _` as `ok`; a read reads `done b` as the byte `b`. -/
inductive Answer where
  /-- The transaction succeeded; for a read the answered byte is `b`. -/
  | done (b : Byte)
  /-- The transaction failed. R53 leaves open what a failed write did: `reached` says whether the device register
  was changed all the same (log 4). It means nothing for a read. -/
  | fail (reached : Bool)
  deriving DecidableEq, Repr, Inhabited

/-- `ok` or a byte, as opposed to `fail` (R51, R52). -/
def Answer.succeeded : Answer → Bool
  | .done _ => true
  | .fail _ => false

/-- The implementation parameters of R7. They are fixed when the block is constructed; no command writes them (R30). -/
structure Params where
  /-- `DEV_ADDR`, the device address of every transaction but the broadcast (R30). -/
  devAddr : DevAddr
  /-- `HAS_RESET_LINE`, whether a reset line is fitted (R30, R202). -/
  hasResetLine : Bool
  /-- `T_RESET_MIN`, the minimum reset hold, in an unstated unit (R7, R237). -/
  tResetMin : Nat
  /-- `COMM_FAIL_SENTINEL` (R7, R27). -/
  commFailSentinel : Mask16
  deriving DecidableEq, Repr

/-- The parameters that `State.reset` is built with. `COMM_FAIL_SENTINEL` is R7's value; R7 leaves the other three
open (DESIGN CHOICE, unsafe, log 1). Statements quantify over every value of them. -/
def Config.atReset : Params :=
  { devAddr := 0x60#7, hasResetLine := true, tResetMin := 1, commFailSentinel := 0xFF01#16 }

/-- FREE VALUE: the environment's answer to transaction number `n` since construction, where the list `answers` of
the state holds none (R13: no rule constrains the environment's answers; log 2). -/
opaque Config.freeAnswer : Nat → Answer

/-- FREE VALUE: what the device register at a location holds before anything wrote or reset it: "an undefined hardware
state" (R36, 93 U1; log 6). -/
opaque Config.undefinedByte : Nat → Byte

/-- FREE VALUE: the power-on default of the device register at a location, where the spec states none (93 U12; log 7). -/
opaque Config.powerOnByte : Nat → Byte

/-- FREE VALUE: what the error-flag register at a location holds after its fault latch was cleared when `n` transactions
had been issued: the faults the device latches next (R66, log 9). -/
opaque Config.clearedFlags (n location : Nat) : Byte

end Sys2Proof
end

