-- ==== Sys2Proof/Machine/State.lean ====
section
/-! DEFINITION. The machine's state as plain data (10_state.md R20; ports of 92 D1; environment of 00_scope.md R13),
the reasons a step can stop, and the state after block reset (R36). -/

namespace Sys2Proof.Machine

/-- `groupMode` (R25): PwmDutyOnly (0) or Blink (1). -/
inductive GroupMode where
  | pwmDutyOnly
  | blink
  deriving DecidableEq, Repr

/-- `errStatus` (R27, R150). -/
inductive ErrStatus where
  | unknown
  | clean
  | faulted
  | commFailure
  deriving DecidableEq, Repr

/-- The level driven on the reset line (R31): Inactive holds the device in reset, Active lets it run. -/
inductive LineLevel where
  | inactive
  | active
  deriving DecidableEq, Repr

/-- The events of a trace (R12). `write` and `read` are transactions, the other two are not numbered. -/
inductive Event where
  /-- `W(dev, reg, val)`: a transport write. -/
  | write (dev : DevAddr) (reg val : Byte)
  /-- `R(dev, reg)`: a transport read. -/
  | read (dev : DevAddr) (reg : Byte)
  /-- `L(level)`: a reset-line level change. -/
  | line (level : LineLevel)
  /-- `D(T_RESET_MIN)`: the reset hold, at least this long (R237). -/
  | hold (atLeast : Nat)
  deriving DecidableEq, Repr

/-- What reaches the block from outside between commands: a command word of the host (R13, R80), or block reset (R36). -/
inductive Input where
  | command (w : CmdWord)
  | blockReset
  deriving DecidableEq, Repr

/-- Why the machine stops. Nothing stops it: "There is no fatal/unrecoverable state in this component" (R199), and
TransportError and IllegalCommand are responses after which the block goes on (R191, R192). So no constructor. -/
inductive Fault where
  deriving DecidableEq, Repr

/-- Why an instruction has no meaning. No arm of `exec` uses it. -/
inductive Refusal where
  /-- Raised by `exec` for an instruction the model does not reach yet (none is left). Safe: the model stops. -/
  | notModelled (mnemonic : String)
  deriving DecidableEq, Repr

/-- The device register space: (location, byte) pairs, locations strictly rising (R50, R73). -/
abbrev Memory := List Host.Cell

/-- Which devices have been reset since construction: it decides what a register nothing wrote since holds (log 6, 7). -/
structure DeviceResets where
  /-- The block's own device, by the line or by the broadcast (R172, R174). -/
  own : Bool
  /-- Every other device on the bus, by the broadcast (R62, R174). -/
  others : Bool
  deriving DecidableEq, Repr

/-- The block's own changing state: every element of R20 but the parameters. -/
structure Block where
  /-- `M[0..3]`, the output-state mirror (R21). -/
  mirror : Vector Byte 4
  /-- The cached group mode (R25). -/
  groupMode : GroupMode
  /-- The tag of the last error check (R27). -/
  errStatus : ErrStatus
  /-- The mask of the last error check (R27, R28). -/
  errMask : Mask16
  /-- The level the block drives on the reset line (R31). -/
  resetLine : LineLevel
  deriving DecidableEq, Repr

/-- The machine: the block, its ports, and the environment and host it is connected to. -/
structure State where
  /-- `DEV_ADDR`, `HAS_RESET_LINE` and the other parameters (R7, R20, R30). -/
  params : Params
  /-- The block's own changing state (R20). -/
  block : Block
  /-- The response port: the response word of the last command, none before the first (R88, log 10). -/
  response : Option CmdWord
  /-- The events of the last command, in the order they were emitted (R12). -/
  trace : List Event
  /-- What the host presents next (R13): the host's script, not a queue of the block (log 5). -/
  inputs : List Input
  /-- The answers the environment gives next, one per transaction (R12, R13, log 2). -/
  answers : List Answer
  /-- MODEL'S OWN: how many transactions were issued since construction, the index of the free answer (log 2). -/
  issued : Nat
  /-- The registers of the devices behind the transport, those listed whose byte a write or a reset of the device gave
  (R35). An unlisted register holds a free value: `State.readDevice` (log 6). -/
  device : Memory
  /-- MODEL'S OWN: which devices have been reset. -/
  resets : DeviceResets
  deriving DecidableEq, Repr

/-- The block's own state after block reset (R36). -/
def Block.afterReset : Block :=
  { mirror := #v[0x00#8, 0x00#8, 0x00#8, 0x00#8], groupMode := .pwmDutyOnly, errStatus := .unknown,
    errMask := 0x0000#16, resetLine := .active }

/-- `construct`: the machine right after block reset with parameters `p` (R36), nothing presented yet, the
device in its undefined hardware state. -/
def State.construct (p : Params) : State :=
  { params := p, block := Block.afterReset, response := none, trace := [], inputs := [], answers := [],
    issued := 0, device := [], resets := { own := false, others := false } }

/-- The machine right after reset, with the parameters of `Config.atReset` (R36, log 1). -/
def State.reset : State := State.construct Config.atReset

end Sys2Proof.Machine
end

