-- ==== Sys2Proof/Machine/Flags.lean ====
section
/-! DEFINITION. Flag computations: the codes of the flags (10_state.md R25, R27, R31), the MODE_REG byte (30 R90), the
outcome of an error check (43 R150, R151) and the report of it (R152), and the response word (30 R88). -/

namespace Sys2Proof.Machine

/-- The bit of `groupMode`: 0 PwmDutyOnly, 1 Blink (R25). -/
def groupModeBit : GroupMode → BitVec 1
  | .pwmDutyOnly => 0#1
  | .blink => 1#1

/-- The 2-bit code of `errStatus` (R27). -/
def errStatusCode : ErrStatus → BitVec 2
  | .unknown => 0b00#2
  | .clean => 0b01#2
  | .faulted => 0b10#2
  | .commFailure => 0b11#2

/-- The bit of `resetLine`: 1 Active, 0 Inactive (R31). -/
def lineBit : LineLevel → BitVec 1
  | .inactive => 0#1
  | .active => 1#1

/-- `modeByte(clr)`, the byte of every MODE_REG write, from the group mode at the moment of the write (R90). -/
def modeByte (clr : Bool) (g : GroupMode) : Byte :=
  (if clr then clrBit else 0x00#8) ||| (if g = .blink then blinkBit else 0x00#8)

/-- `mask = (zext_16(hi) << 8) | zext_16(lo)` (R64, R94). -/
def errorMask (lo hi : Byte) : Mask16 := (hi.setWidth 16 <<< 8) ||| lo.setWidth 16

/-- Clean for the "no errors" mask, else Faulted (R150). -/
def statusOfMask (m : Mask16) : ErrStatus := if m = noErrors then .clean else .faulted

/-- The new `errStatus` and `errMask` of an error check, from the two reads; none is a failed read (R151, C1, C2). -/
def checkOutcome (sentinel : Mask16) : Option Byte → Option Byte → ErrStatus × Mask16
  | some lo, some hi => (statusOfMask (errorMask lo hi), errorMask lo hi)
  | none, _ => (.commFailure, sentinel)
  | some _, none => (.commFailure, sentinel)

/-- CHKERR's result: whether any fault or communication failure exists (R151). -/
def checkResult (st : ErrStatus) : Mask16 := if st = .clean then 0#16 else 1#16

/-- DESCERR's vector: bit `i` set means channel `i` is reported faulted (R152). -/
def faultedVector (st : ErrStatus) (m : Mask16) : Mask16 := if st = .faulted then ~~~m else 0#16

/-- DESCERR's report kind, the 6-bit number of the `errStatus` code (R88, R152). -/
def reportKind (st : ErrStatus) : BitVec 6 := (errStatusCode st).setWidth 6

/-- The response word `status[23:22] k[21:16] result[15:0]` (R88). -/
def responseWord (status : BitVec 2) (k : BitVec 6) (result : Mask16) : CmdWord := status ++ k ++ result

/-- `status = 0`: OK, with `k` and `result` (R88). -/
def okWord (k : BitVec 6) (result : Mask16) : CmdWord := responseWord 0b00#2 k result

/-- `status = 1`: TransportError(k) (R88, R191). -/
def transportErrorWord (k : Nat) : CmdWord := responseWord 0b01#2 (BitVec.ofNat 6 k) 0#16

/-- `status = 2`: IllegalCommand (R88, R192). -/
def illegalCommandWord : CmdWord := responseWord 0b10#2 0#6 0#16

end Sys2Proof.Machine
end

