-- ==== Sys2Proof/Syntax.lean ====
section
/-! DEFINITION. The commands of DRVCMD-1: one constructor per row of spec/opcode_table.json (30_encoding.md R83, R87). -/

namespace Sys2Proof

/-- A channel state (10_state.md R24). Its 2-bit code is `chanStateCode`. -/
inductive ChanState where
  | off
  | on
  | pwm
  | group
  deriving DecidableEq, Repr

/-- A command. Operands have the exact width of their field, so an operand out of range cannot be written (R82). -/
inductive Instr where
  /-- `enable()` (R170). -/
  | enable
  /-- `reset()` (R171 to R173). -/
  | reset
  /-- `setChannelState(channel, state)` (R110). -/
  | setstate (ch : Channel) (st : ChanState)
  /-- `setChannelDuty(channel, duty)` (R130). -/
  | setduty (ch : Channel) (duty : Byte)
  /-- `assignToGroup(channel)` (R114). -/
  | assigngrp (ch : Channel)
  /-- `setGroupDuty(duty)` (R131). -/
  | grpduty (duty : Byte)
  /-- `setGroupBlink(freq, duty)`, the frequency code first (R132). -/
  | grpblink (freq dutycycle : Byte)
  /-- `checkForErrors()` (R151). -/
  | chkerr
  /-- `describeErrors()` (R152). -/
  | descerr
  /-- `clearErrors()` (R153). -/
  | clrerr
  /-- The bus-wide software reset broadcast (R174). -/
  | busreset
  /-- Pseudo-instruction `turnOff(channel)`: SETSTATE ch, Off (R87, R111). -/
  | turnoff (ch : Channel)
  /-- Pseudo-instruction `turnOn(channel)`: SETSTATE ch, On (R87, R112). -/
  | turnon (ch : Channel)
  /-- Pseudo-instruction `setIndividualPWM(channel)`: SETSTATE ch, PWM (R87, R113). -/
  | setpwm (ch : Channel)
  deriving DecidableEq, Repr

end Sys2Proof
end

