-- ==== Sys2Proof/WellFormed.lean ====
section
/-! DEFINITION. What is legal: a command word, by the match and mask table of 30_encoding.md R83; a set of parameters,
by 00_scope.md R7. A term of `Instr` needs no check of its own: its operand types are exactly the fields (R82). -/

namespace Sys2Proof

/-- One row of the opcode map of R83. -/
structure OpcodeRow where
  mnemonic : String
  matchBits : CmdWord
  mask : CmdWord
  deriving DecidableEq, Repr

/-- A word `w` selects the row whose `(w & mask) = match` (R83). -/
def OpcodeRow.selects (r : OpcodeRow) (w : CmdWord) : Bool := w &&& r.mask == r.matchBits

/-- The eleven rows of R83. -/
def opcodeRows : List OpcodeRow :=
  [ ⟨"ENABLE", 0x000000#24, 0xFFFFFF#24⟩,
    ⟨"RESET", 0x100000#24, 0xFFFFFF#24⟩,
    ⟨"SETSTATE", 0x200000#24, 0xF0FCFF#24⟩,
    ⟨"SETDUTY", 0x300000#24, 0xF000FF#24⟩,
    ⟨"ASSIGNGRP", 0x400000#24, 0xF0FFFF#24⟩,
    ⟨"GRPDUTY", 0x500000#24, 0xFF00FF#24⟩,
    ⟨"GRPBLINK", 0x600000#24, 0xFF0000#24⟩,
    ⟨"CHKERR", 0x700000#24, 0xFFFFFF#24⟩,
    ⟨"DESCERR", 0x800000#24, 0xFFFFFF#24⟩,
    ⟨"CLRERR", 0x900000#24, 0xFFFFFF#24⟩,
    ⟨"BUSRESET", 0xA0A55A#24, 0xFFFFFF#24⟩ ]

/-- A command word that matches no row of R83 is illegal (R84). -/
def legalWord (w : CmdWord) : Bool := opcodeRows.any fun r => r.selects w

/-- The legal parameter values of R7: `DEV_ADDR` must not be `0x6B`, `T_RESET_MIN` is above 0. -/
def Params.legal (p : Params) : Bool := p.devAddr != 0x6B#7 && decide (0 < p.tResetMin)

end Sys2Proof
end

