-- ==== Sys2Proof/Decode.lean ====
section
/-! DEFINITION. The command word: the decoder, total on every 24-bit word and rejecting by name (30_encoding.md R80
to R85), and the encoder written from the same fields. -/

namespace Sys2Proof

/-- Why a command word is illegal (R84). Every reason has the one effect of R192. -/
inductive DecodeError where
  /-- `op` in `0xB`..`0xF`. -/
  | reservedOpcode
  /-- `ch ≠ 0` in a format whose `ch` must be zero. -/
  | chNotZero
  /-- `a ≠ 0` in a format whose `a` must be zero. -/
  | aNotZero
  /-- `b ≠ 0` in a format whose `b` must be zero. -/
  | bNotZero
  /-- `a[7:2] ≠ 0` in format CS. -/
  | stateHighNotZero
  /-- BUSRESET without its key bytes `0xA5`, `0x5A`. -/
  | badKey
  deriving DecidableEq, Repr

/-- The 2-bit code of a channel state (10_state.md R24). PRESUMED by the spec itself for On, PWM and Group (93 G1, log 12). -/
def chanStateCode : ChanState → BitVec 2
  | .off => 0b00#2
  | .on => 0b01#2
  | .pwm => 0b10#2
  | .group => 0b11#2

/-- The channel state of a 2-bit code; all four codes are legal (R24, R82). -/
def chanStateOfCode (v : BitVec 2) : ChanState :=
  if v = 0b00#2 then .off else if v = 0b01#2 then .on else if v = 0b10#2 then .pwm else .group

/-- Bits 23:20 (R81). -/
def opField (w : CmdWord) : BitVec 4 := w.extractLsb' 20 4
/-- Bits 19:16 (R81). -/
def chField (w : CmdWord) : Channel := w.extractLsb' 16 4
/-- Bits 15:8 (R81). -/
def aField (w : CmdWord) : Byte := w.extractLsb' 8 8
/-- Bits 7:0 (R81). -/
def bField (w : CmdWord) : Byte := w.extractLsb' 0 8

/-- The word of four fields, `op` in the most significant bits (R81). -/
def cmdWord (op : BitVec 4) (ch : Channel) (a b : Byte) : CmdWord := op ++ ch ++ a ++ b

/-- `i`, if the field `v` that must be zero is zero; else the rejection `e` (R84). -/
def ifZero {n : Nat} (v : BitVec n) (e : DecodeError) (i : Except DecodeError Instr) : Except DecodeError Instr :=
  if v = 0 then i else .error e

/-- Format N: no operand, `ch`, `a` and `b` zero (R81). -/
def formatN (w : CmdWord) (i : Instr) : Except DecodeError Instr :=
  ifZero (chField w) .chNotZero <| ifZero (aField w) .aNotZero <| ifZero (bField w) .bNotZero <| .ok i

/-- Format CS: the channel, and the state in `a[1:0]` (R81). -/
def formatCS (w : CmdWord) : Except DecodeError Instr :=
  ifZero ((aField w).extractLsb' 2 6) .stateHighNotZero <| ifZero (bField w) .bNotZero <|
    .ok (.setstate (chField w) (chanStateOfCode ((aField w).extractLsb' 0 2)))

/-- Format K: `ch` zero and the two key bytes (R81, R84). -/
def formatK (w : CmdWord) : Except DecodeError Instr :=
  ifZero (chField w) .chNotZero <|
    if aField w = 0xA5#8 ∧ bField w = 0x5A#8 then .ok .busreset else .error .badKey

/-- The decoder (R83, R84). A word of a pseudo-instruction decodes to the SETSTATE it is (R87, log 14). -/
def decode (w : CmdWord) : Except DecodeError Instr :=
  match (opField w).toNat with
  | 0x0 => formatN w .enable
  | 0x1 => formatN w .reset
  | 0x2 => formatCS w
  | 0x3 => ifZero (bField w) .bNotZero <| .ok (.setduty (chField w) (aField w))
  | 0x4 => ifZero (aField w) .aNotZero <| ifZero (bField w) .bNotZero <| .ok (.assigngrp (chField w))
  | 0x5 => ifZero (chField w) .chNotZero <| ifZero (bField w) .bNotZero <| .ok (.grpduty (aField w))
  | 0x6 => ifZero (chField w) .chNotZero <| .ok (.grpblink (aField w) (bField w))
  | 0x7 => formatN w .chkerr
  | 0x8 => formatN w .descerr
  | 0x9 => formatN w .clrerr
  | 0xA => formatK w
  | _ => .error .reservedOpcode

/-- The command word of an instruction (R83; R87 for the three pseudo-instructions). -/
def encode : Instr → CmdWord
  | .enable => cmdWord 0x0#4 0#4 0#8 0#8
  | .reset => cmdWord 0x1#4 0#4 0#8 0#8
  | .setstate c st => cmdWord 0x2#4 c ((chanStateCode st).setWidth 8) 0#8
  | .setduty c d => cmdWord 0x3#4 c d 0#8
  | .assigngrp c => cmdWord 0x4#4 c 0#8 0#8
  | .grpduty d => cmdWord 0x5#4 0#4 d 0#8
  | .grpblink f d => cmdWord 0x6#4 0#4 f d
  | .chkerr => cmdWord 0x7#4 0#4 0#8 0#8
  | .descerr => cmdWord 0x8#4 0#4 0#8 0#8
  | .clrerr => cmdWord 0x9#4 0#4 0#8 0#8
  | .busreset => cmdWord 0xA#4 0#4 0xA5#8 0x5A#8
  | .turnoff c => cmdWord 0x2#4 c 0x00#8 0#8
  | .turnon c => cmdWord 0x2#4 c 0x01#8 0#8
  | .setpwm c => cmdWord 0x2#4 c 0x02#8 0#8

/-- The core instruction an instruction stands for: a pseudo-instruction expands to its SETSTATE (R87). -/
def expandPseudo : Instr → Instr
  | .enable => .enable
  | .reset => .reset
  | .setstate c st => .setstate c st
  | .setduty c d => .setduty c d
  | .assigngrp c => .assigngrp c
  | .grpduty d => .grpduty d
  | .grpblink f d => .grpblink f d
  | .chkerr => .chkerr
  | .descerr => .descerr
  | .clrerr => .clrerr
  | .busreset => .busreset
  | .turnoff c => .setstate c .off
  | .turnon c => .setstate c .on
  | .setpwm c => .setstate c .pwm

/-- The command word whose bits are `w`, bit 0 the least significant: R80 gives the word no byte order, it is
presented whole. Bits at `nbits` and above are 0. -/
def tableWord (nbits w : Nat) : CmdWord := BitVec.ofNat 24 (w % 2 ^ nbits)

/-- The instruction the decoder reads from an opcode-table word; none where it refuses. -/
def decodeTableWord (nbits w : Nat) : Option Instr :=
  match decode (tableWord nbits w) with
  | .ok i => some i
  | .error _ => none

end Sys2Proof
end

