-- ==== Sys2Proof/Machine/Operands.lean ====
section
/-! DEFINITION. Operand forms: the bit-packing of a channel's state into a mirror byte (10_state.md R22, R23, 30 R89)
and the two computed register addresses (20_memory.md R57, R60). -/

namespace Sys2Proof.Machine

/-- `regIndex(c) = c / 4 = c[3:2]` (R22). -/
def regIndex (c : Channel) : Fin 4 := ⟨c.toNat / 4, by omega⟩

/-- `bitOffset(c) = (c % 4) * 2` (R22). -/
def bitOffset (c : Channel) : Nat := (c.toNat % 4) * 2

/-- `mask(c) = 0b11 << bitOffset(c)`, a byte (R22). -/
def fieldMask (c : Channel) : Byte := 0b11#8 <<< bitOffset c

/-- The byte `m` with the field of channel `c` cleared and the 2-bit code of `st` put in (R89, R110). -/
def insertField (m : Byte) (c : Channel) (st : ChanState) : Byte :=
  (m &&& ~~~(fieldMask c)) ||| ((chanStateCode st).setWidth 8 <<< bitOffset c)

/-- The 2-bit field of channel `c` in the byte `m` (R23). -/
def extractField (m : Byte) (c : Channel) : BitVec 2 := ((m >>> bitOffset c) &&& 0b11#8).setWidth 2

/-- The address of PWM[c], `0x02 + c` (R57). -/
def pwmReg (c : Channel) : Byte := pwmBase + c.setWidth 8

/-- The address of LEDOUT[i], `0x14 + i` (R60). -/
def ledoutReg (i : Fin 4) : Byte := ledoutBase + BitVec.ofNat 8 i.val

/-- The sixteen channels, ascending (R14, R173). -/
def allChannels : List Channel :=
  [0#4, 1#4, 2#4, 3#4, 4#4, 5#4, 6#4, 7#4, 8#4, 9#4, 10#4, 11#4, 12#4, 13#4, 14#4, 15#4]

end Sys2Proof.Machine
end

