-- ==== Sys2Proof/Machine/Ops.lean ====
section
/-! DEFINITION. The named operations of the machine: the device register file, the register accessors, the transport
primitives (20_memory.md R51, R52), the reset line (10_state.md R31), taking an exception (60_exceptions.md R191,
R192), and the shape of one command (00_scope.md R12). -/

namespace Sys2Proof.Machine

/-! ### The device register file -/

/-- The listed byte at a location; none where the location is not listed. -/
def Memory.read : Memory → Nat → Option Byte
  | [], _ => none
  | c :: m, a => if c.1 = a then some c.2 else Memory.read m a

/-- The list with the byte at location `a` set to `v`; keeps the canonical form. -/
def Memory.write : Memory → Nat → Byte → Memory
  | [], a, v => [(a, v)]
  | c :: m, a, v =>
    if a < c.1 then (a, v) :: c :: m
    else if a = c.1 then (a, v) :: m
    else c :: Memory.write m a v

/-- The list without the registers of device `dev`. -/
def Memory.forget (m : Memory) (dev : DevAddr) : Memory := m.filter fun c => c.1 / 256 != dev.toNat

/-- Canonical form: locations strictly rising, every one a location of the address space (R50). An unlisted location
holds a free value (`State.unlistedByte`), so no entry can be found equal to it, and every byte that is known is listed
(log 6). -/
def Memory.wf : Memory → Bool
  | [] => true
  | [c] => decide (c.1 < 32768)
  | c :: d :: m => decide (c.1 < d.1) && Memory.wf (d :: m)

/-- The power-on default of register `reg` of the block's own device, at address `dev` (R54 to R60, R172, R205, R220):
LEDOUT 0, BLINK 0 (93 G4), enable 0, every other bit and register a free value (93 U12, log 7). -/
def defaultByte (dev : DevAddr) (reg : Byte) : Byte :=
  if isLedoutReg reg then 0x00#8
  else if reg = modeReg then Config.powerOnByte (loc dev reg) &&& ~~~blinkBit
  else if reg = enableReg then Config.powerOnByte (loc dev reg) &&& ~~~enableByte
  else Config.powerOnByte (loc dev reg)

/-- The registers whose power-on default the spec states, whole or in part (R55, R56, R60). -/
def defaultRegs : List Byte := enableReg :: modeReg :: (List.finRange 4).map ledoutReg

/-- The list with the stated defaults of device `dev` put in. -/
def Memory.putDefaults (m : Memory) (dev : DevAddr) : Memory :=
  defaultRegs.foldl (fun m r => m.write (loc dev r) (defaultByte dev r)) m

/-- What an unlisted register holds, always a free value: its power-on default once its device was reset (93 U12), its
undefined hardware state before (R36, 93 U1). -/
def State.unlistedByte (s : State) (dev : DevAddr) (reg : Byte) : Byte :=
  if (if dev = s.params.devAddr then s.resets.own else s.resets.others) then Config.powerOnByte (loc dev reg)
  else Config.undefinedByte (loc dev reg)

/-- What register `reg` of device `dev` holds. No instruction reads this: a read is answered by the environment
(R52, R71). -/
def State.readDevice (s : State) (dev : DevAddr) (reg : Byte) : Byte :=
  (s.device.read (loc dev reg)).getD (s.unlistedByte dev reg)

/-- `dev[reg] <- v` (R66, R73). A write that clears the fault latch leaves the error flags at what the device latches
next, a free value of the count `n` of transactions (R35, R66, log 9). -/
def Memory.store (m : Memory) (n : Nat) (dev : DevAddr) (reg v : Byte) : Memory :=
  if clearsLatch reg v then
    ((m.write (loc dev reg) v).write (loc dev eflagLoReg) (Config.clearedFlags n (loc dev eflagLoReg))).write
      (loc dev eflagHiReg) (Config.clearedFlags n (loc dev eflagHiReg))
  else m.write (loc dev reg) v

/-- The device takes a write. -/
def State.storeDevice (s : State) (dev : DevAddr) (reg v : Byte) : State :=
  { s with device := s.device.store s.issued dev reg v }

/-- The block's own device is reset by the line (R172, R220). -/
def State.lineResetDevice (s : State) : State :=
  { s with device := (s.device.forget s.params.devAddr).putDefaults s.params.devAddr,
           resets := { s.resets with own := true } }

/-- Every chip on the bus is reset by the broadcast (R62, R66, R174, log 8). -/
def State.busResetDevices (s : State) : State :=
  { s with device := Memory.putDefaults [] s.params.devAddr, resets := { own := true, others := true } }

/-! ### Register accessors -/

/-- `M[i]` (R10). -/
def State.mirrorByte (s : State) (i : Fin 4) : Byte := s.block.mirror[i]

/-- `M[i] <- v` (R10). -/
def State.setMirror (s : State) (i : Fin 4) (v : Byte) : State :=
  { s with block := { s.block with mirror := s.block.mirror.set i.val v i.isLt } }

/-- `M[0..3] <- 0` (R172). -/
def State.clearMirror (s : State) : State :=
  { s with block := { s.block with mirror := #v[0x00#8, 0x00#8, 0x00#8, 0x00#8] } }

/-- `groupMode <- g`. -/
def State.setGroupMode (s : State) (g : GroupMode) : State := { s with block := { s.block with groupMode := g } }

/-- `errStatus` and `errMask`, written only together (R27). -/
def State.setErr (s : State) (e : ErrStatus × Mask16) : State :=
  { s with block := { s.block with errStatus := e.1, errMask := e.2 } }

/-- `resetLine <- l`. -/
def State.setLine (s : State) (l : LineLevel) : State := { s with block := { s.block with resetLine := l } }

/-- `chanState(c)`, the decoder of R23: the 2-bit state code of channel `c` in the mirror. -/
def State.chanState (s : State) (c : Channel) : BitVec 2 := extractField (s.mirrorByte (regIndex c)) c

/-- The state outputs of R38. -/
structure StatusOutputs where
  mirror : Vector Byte 4
  groupMode : BitVec 1
  errStatus : BitVec 2
  errMask : Mask16
  /-- Absent when no reset line is fitted (R31, R36). -/
  resetLine : Option (BitVec 1)
  deriving DecidableEq, Repr

/-- The read-only status outputs (R38); reading them changes nothing. -/
def State.statusOutputs (s : State) : StatusOutputs :=
  { mirror := s.block.mirror, groupMode := groupModeBit s.block.groupMode,
    errStatus := errStatusCode s.block.errStatus, errMask := s.block.errMask,
    resetLine := if s.params.hasResetLine then some (lineBit s.block.resetLine) else none }

/-! ### Events and answers -/

/-- The event is appended to the trace (R12). -/
def State.emit (s : State) (e : Event) : State := { s with trace := s.trace ++ [e] }

/-- Whether an event is a transaction, that is numbered (R12). -/
def Event.isTransaction : Event → Bool
  | .write _ _ _ => true
  | .read _ _ => true
  | .line _ => false
  | .hold _ => false

/-- How many transactions a trace holds; while a command runs, the number of its next transaction (R12). -/
def transactions (t : List Event) : Nat := (t.filter Event.isTransaction).length

/-- The answer the environment gives to the `k`-th transaction from here: the script's, or past its end the free
answer (R13, log 2). -/
def State.answerAt (s : State) (k : Nat) : Answer := (s.answers[k]?).getD (Config.freeAnswer (s.issued + k))

/-- One answer is used up. -/
def State.takeAnswer (s : State) : State := { s with answers := s.answers.drop 1, issued := s.issued + 1 }

/-! ### The end of a command -/

/-- The exceptions of R190. -/
inductive Exception where
  /-- A failed transport write, with its number in the command (R191). -/
  | transportError (k : Nat)
  /-- A command word that matches no row (R192). -/
  | illegalCommand
  deriving DecidableEq, Repr

/-- The response word of an exception (R88, R190). -/
def exceptionWord : Exception → CmdWord
  | .transportError k => transportErrorWord k
  | .illegalCommand => illegalCommandWord

/-- The response port takes a word (R88). -/
def State.respond (s : State) (w : CmdWord) : State := { s with response := some w }

/-- TAKING AN EXCEPTION: "the response word is the whole report", nothing is saved, no mode changes, control goes
nowhere (R196). There is no return (R198). -/
def takeException (e : Exception) (s : State) : State := s.respond (exceptionWord e)

/-- Where a command stands: it goes on, or an exception has ended it (R191). -/
inductive Flow where
  | cont (s : State)
  | ended (s : State)
  deriving DecidableEq, Repr

/-- The next steps of the command, performed only if nothing has ended it (R191). -/
def Flow.andThen : Flow → (State → Flow) → Flow
  | .cont s, k => k s
  | .ended s, _ => .ended s

/-- The state the command leaves. -/
def Flow.state : Flow → State
  | .cont s => s
  | .ended s => s

/-- `return`: response OK with the fields `k` and `result` (R11, R88). -/
def returnOk (k : BitVec 6) (result : Mask16) (s : State) : Flow := .cont (s.respond (okWord k result))

/-- A command begins: its trace is empty (R12). -/
def State.beginCommand (s : State) : State := { s with trace := [] }

/-- One command, executed alone and to completion (R12). -/
def command (body : State → Flow) (s : State) : Host.Outcome State Fault Refusal := .next (body s.beginCommand).state

/-! ### Transport primitives -/

/-- `BusWrite(dev, reg, v)` (R51), with the effect `reach` it has on the devices if it reaches them. On `fail` the
command ends with TransportError (R191), and the environment decides whether the write reached the device (R53). -/
def busWrite (dev : DevAddr) (reg v : Byte) (reach : State → State) (s : State) : Flow :=
  match s.answerAt 0 with
  | .done _ => .cont (reach (s.emit (.write dev reg v)).takeAnswer)
  | .fail true => .ended (takeException (.transportError (transactions s.trace)) (reach (s.emit (.write dev reg v)).takeAnswer))
  | .fail false => .ended (takeException (.transportError (transactions s.trace)) (s.emit (.write dev reg v)).takeAnswer)

/-- `MemWrite(reg, 1, v)`: the write to the block's own device (R11). -/
def memWrite (reg v : Byte) (s : State) : Flow :=
  busWrite s.params.devAddr reg v (fun t => t.storeDevice t.params.devAddr reg v) s

/-- The state after `MemRead(reg, 1)` was issued and answered (R52). -/
def afterRead (reg : Byte) (s : State) : State := (s.emit (.read s.params.devAddr reg)).takeAnswer

/-- What `MemRead` returns: the byte answered, or none for the token `Fail` (R52). -/
def readAnswer (s : State) : Option Byte :=
  match s.answerAt 0 with
  | .done b => some b
  | .fail _ => none

/-- `LineSet(level)`; it cannot fail (R31). The inactive level resets the device (R31, R172). -/
def lineSet (l : LineLevel) (s : State) : State :=
  match l with
  | .inactive => ((s.setLine .inactive).emit (.line .inactive)).lineResetDevice
  | .active => (s.setLine .active).emit (.line .active)

/-- `Delay(T_RESET_MIN)` (R237). -/
def delay (s : State) : State := s.emit (.hold s.params.tResetMin)

/-! ### Steps that several commands share -/

/-- Steps of R110: the mirror first, then the whole byte to the device. -/
def setChannel (c : Channel) (st : ChanState) (s : State) : Flow :=
  memWrite (ledoutReg (regIndex c)) (insertField (s.mirrorByte (regIndex c)) c st)
    (s.setMirror (regIndex c) (insertField (s.mirrorByte (regIndex c)) c st))

/-- The write of MODE_REG with the current group mode (R90). -/
def writeMode (clr : Bool) (s : State) : Flow := memWrite modeReg (modeByte clr s.block.groupMode) s

/-- `groupMode <- g`, cache first, then the MODE_REG write, both only on a transition (R131 to R133). -/
def switchMode (g : GroupMode) (s : State) : Flow :=
  if s.block.groupMode = g then .cont s else writeMode false (s.setGroupMode g)

/-- `do ENABLE` (R170). -/
def doEnable (s : State) : Flow := memWrite enableReg enableByte s

/-- The channels of a list set to Off, in order, until a write fails (R173). -/
def offAll : List Channel → State → Flow
  | [], s => .cont s
  | c :: cs, s => (setChannel c .off s).andThen (offAll cs)

/-! ### Outside a command -/

/-- Block reset: the block state of R36, no transaction, no event; the device keeps what it has (R37). -/
def State.blockReset (s : State) : State :=
  { s with block := Block.afterReset, response := none, trace := [] }

/-- An illegal command: no effect but the response (R84, R192). -/
def refuseCommand (s : State) : State := takeException .illegalCommand s.beginCommand

end Sys2Proof.Machine
end

