-- ==== Sys2Proof/Machine/Brightness.lean ====
section
/-! DEFINITION. The brightness and group-mode family (42_brightness.md). -/

namespace Sys2Proof.Machine

/-- SETDUTY ch, duty (R130). -/
def execSetduty (c : Channel) (d : Byte) (s : State) : Host.Outcome State Fault Refusal :=
  command (fun s => (memWrite (pwmReg c) d s).andThen (returnOk 0#6 0#16)) s

/-- GRPDUTY duty: the mode back to PwmDutyOnly if it was Blink, then the duty (R131). -/
def execGrpduty (d : Byte) (s : State) : Host.Outcome State Fault Refusal :=
  command (fun s => ((switchMode .pwmDutyOnly s).andThen (memWrite grpDutyReg d)).andThen (returnOk 0#6 0#16)) s

/-- GRPBLINK freq, dutycycle: the duty cycle, the mode to Blink if it was not, then the frequency code (R132). -/
def execGrpblink (f d : Byte) (s : State) : Host.Outcome State Fault Refusal :=
  command (fun s => (((memWrite grpDutyReg d s).andThen (switchMode .blink)).andThen
    (memWrite grpFreqReg f)).andThen (returnOk 0#6 0#16)) s

end Sys2Proof.Machine
end

