-- ==== Sys2Proof/Machine/ChannelState.lean ====
section
/-! DEFINITION. The channel-state family (41_channel_state.md). -/

namespace Sys2Proof.Machine

/-- SETSTATE ch, state (R110). -/
def execSetstate (c : Channel) (st : ChanState) (s : State) : Host.Outcome State Fault Refusal :=
  command (fun s => (setChannel c st s).andThen (returnOk 0#6 0#16)) s

/-- TURNOFF ch: R110 with state Off (R111). -/
def execTurnoff (c : Channel) (s : State) : Host.Outcome State Fault Refusal :=
  command (fun s => (setChannel c .off s).andThen (returnOk 0#6 0#16)) s

/-- TURNON ch: R110 with state On (R112). -/
def execTurnon (c : Channel) (s : State) : Host.Outcome State Fault Refusal :=
  command (fun s => (setChannel c .on s).andThen (returnOk 0#6 0#16)) s

/-- SETPWM ch: R110 with state PWM (R113). -/
def execSetpwm (c : Channel) (s : State) : Host.Outcome State Fault Refusal :=
  command (fun s => (setChannel c .pwm s).andThen (returnOk 0#6 0#16)) s

/-- ASSIGNGRP ch: maximum duty, then state Group (R114). -/
def execAssigngrp (c : Channel) (s : State) : Host.Outcome State Fault Refusal :=
  command (fun s => ((memWrite (pwmReg c) maxDuty s).andThen (setChannel c .group)).andThen (returnOk 0#6 0#16)) s

end Sys2Proof.Machine
end

