-- ==== Sys2Proof/Machine/EnableReset.lean ====
section
/-! DEFINITION. The enable and reset family (44_enable_reset.md). -/

namespace Sys2Proof.Machine

/-- ENABLE (R170). -/
def execEnable (s : State) : Host.Outcome State Fault Refusal :=
  command (fun s => (doEnable s).andThen (returnOk 0#6 0#16)) s

/-- The steps of RESET with a reset line (R172). -/
def resetByLine (s : State) : Flow :=
  doEnable ((lineSet .active (delay (lineSet .inactive s))).clearMirror.setGroupMode .pwmDutyOnly)

/-- The steps of RESET without a reset line (R173). -/
def resetByWrites (s : State) : Flow := (offAll allChannels s).andThen doEnable

/-- RESET, in the form the parameter chooses (R171). -/
def execReset (s : State) : Host.Outcome State Fault Refusal :=
  command (fun s => (if s.params.hasResetLine then resetByLine s else resetByWrites s).andThen (returnOk 0#6 0#16)) s

/-- BUSRESET: the broadcast, block state untouched (R174). -/
def execBusreset (s : State) : Host.Outcome State Fault Refusal :=
  command (fun s => (busWrite swrstDev swrstReg swrstVal State.busResetDevices s).andThen (returnOk 0#6 0#16)) s

end Sys2Proof.Machine
end

