-- ==== Sys2Proof/Machine/Errors.lean ====
section
/-! DEFINITION. The error family (43_errors.md). -/

namespace Sys2Proof.Machine

/-- CHKERR: both reads, low register first, the second issued even after a failed first (R151). -/
def execChkerr (s : State) : Host.Outcome State Fault Refusal :=
  command (fun s =>
    let lo := readAnswer s
    let s := afterRead eflagLoReg s
    let hi := readAnswer s
    let s := (afterRead eflagHiReg s).setErr (checkOutcome s.params.commFailSentinel lo hi)
    returnOk 0#6 (checkResult s.block.errStatus) s) s

/-- DESCERR: the report of the last check, without a transaction (R152). -/
def execDescerr (s : State) : Host.Outcome State Fault Refusal :=
  command (fun s => returnOk (reportKind s.block.errStatus) (faultedVector s.block.errStatus s.block.errMask) s) s

/-- CLRERR: CLR set, then cleared, both writes carrying the cached mode bit (R153). -/
def execClrerr (s : State) : Host.Outcome State Fault Refusal :=
  command (fun s => ((writeMode true s).andThen (writeMode false)).andThen (returnOk 0#6 0#16)) s

end Sys2Proof.Machine
end

