-- ==== Sys2Proof/Machine/Dispatch.lean ====
section
/-! DEFINITION. One arm per command. -/

namespace Sys2Proof.Machine

def exec (i : Instr) (s : State) : Host.Outcome State Fault Refusal :=
  match i with
  | .enable => Sys2Proof.Machine.execEnable s
  | .reset => Sys2Proof.Machine.execReset s
  | .setstate ch st => Sys2Proof.Machine.execSetstate ch st s
  | .setduty ch duty => Sys2Proof.Machine.execSetduty ch duty s
  | .assigngrp ch => Sys2Proof.Machine.execAssigngrp ch s
  | .grpduty duty => Sys2Proof.Machine.execGrpduty duty s
  | .grpblink freq dutycycle => Sys2Proof.Machine.execGrpblink freq dutycycle s
  | .chkerr => Sys2Proof.Machine.execChkerr s
  | .descerr => Sys2Proof.Machine.execDescerr s
  | .clrerr => Sys2Proof.Machine.execClrerr s
  | .busreset => Sys2Proof.Machine.execBusreset s
  | .turnoff ch => Sys2Proof.Machine.execTurnoff ch s
  | .turnon ch => Sys2Proof.Machine.execTurnon ch s
  | .setpwm ch => Sys2Proof.Machine.execSetpwm ch s

end Sys2Proof.Machine
end

