-- ==== Sys2Proof/Machine/Step.lean ====
section
/-! DEFINITION. One step: what the host presents next is taken and run to completion (00_scope.md R12, R13). -/

namespace Sys2Proof.Machine

/-- A step. With nothing presented the block waits and nothing happens (R194, R221). A legal command is executed, an
illegal one is refused with its response (R84), block reset is taken between commands (R36, R220). -/
def step (s : State) : Host.Outcome State Fault Refusal :=
  match s.inputs with
  | [] => .next s
  | .blockReset :: rest => .next { s with inputs := rest }.blockReset
  | .command w :: rest =>
    match decode w with
    | .ok i => exec i { s with inputs := rest }
    | .error _ => .next (refuseCommand { s with inputs := rest })

/-- The host presents the word `w` next (log 5). -/
def State.withFetchWord (s : State) (nbits w : Nat) : State :=
  { s with inputs := .command (tableWord nbits w) :: s.inputs }

end Sys2Proof.Machine
end

