-- ==== Sys2Proof/Machine/Assembler.lean ====
section
/-! DEFINITION. The assembler syntax of 30_encoding.md R86 and R87: a line of text to a command, and a command to its
text. Blanks around a mnemonic, an operand or a comma are skipped, names are case-sensitive, hexadecimal digits are
taken in either case, a line with no command in it assembles to nothing (DESIGN CHOICE, log 21). -/

namespace Sys2Proof.Machine

/-- A blank. -/
def isBlank (c : Char) : Bool := c == ' ' || c == '\t'

/-- The text without its leading and trailing blanks. -/
def trim (l : List Char) : List Char := ((l.dropWhile isBlank).reverse.dropWhile isBlank).reverse

/-- The line without its comment, which starts with `;` (R86). -/
def uncomment (l : List Char) : List Char := l.takeWhile fun c => c != ';'

/-- The pieces between commas (R86). -/
def splitCommas : List Char → List (List Char)
  | [] => [[]]
  | c :: cs =>
    match splitCommas cs with
    | [] => [[c]]
    | w :: ws => if c = ',' then [] :: w :: ws else (c :: w) :: ws

/-- The value of a decimal digit. -/
def decDigit (c : Char) : Option Nat := if '0' ≤ c ∧ c ≤ '9' then some (c.toNat - 48) else none

/-- The value of a hexadecimal digit. -/
def hexDigit (c : Char) : Option Nat :=
  if '0' ≤ c ∧ c ≤ '9' then some (c.toNat - 48)
  else if 'A' ≤ c ∧ c ≤ 'F' then some (c.toNat - 55)
  else if 'a' ≤ c ∧ c ≤ 'f' then some (c.toNat - 87)
  else none

/-- The number that digits in a base continue, from the value `n` of those before. -/
def digits (base : Nat) (digit : Char → Option Nat) : List Char → Nat → Option Nat
  | [], n => some n
  | c :: cs, n => (digit c).bind fun d => digits base digit cs (n * base + d)

/-- An unsigned decimal number, at least one digit. -/
def decimal : List Char → Option Nat
  | [] => none
  | c :: cs => digits 10 decDigit (c :: cs) 0

/-- A byte operand: decimal 0..255 or `0x` hexadecimal (R86). -/
def byteNumber : List Char → Option Nat
  | '0' :: 'x' :: c :: cs => digits 16 hexDigit (c :: cs) 0
  | l => decimal l

/-- A number as an operand field of width `n`; none where it does not fit (R82, R86). -/
def fitting (n : Nat) (v : Option Nat) : Option (BitVec n) :=
  v.bind fun x => if x < 2 ^ n then some (BitVec.ofNat n x) else none

/-- `ch`, decimal 0..15 (R86). -/
def channelOperand (l : List Char) : Option Channel := fitting 4 (decimal (trim l))

/-- A duty, a frequency code or a duty cycle (R86). -/
def byteOperand (l : List Char) : Option Byte := fitting 8 (byteNumber (trim l))

/-- `state`, one of the four names or a number 0..3 (R86). -/
def stateOperand (l : List Char) : Option ChanState :=
  match trim l with
  | ['O', 'f', 'f'] => some .off
  | ['O', 'n'] => some .on
  | ['P', 'W', 'M'] => some .pwm
  | ['G', 'r', 'o', 'u', 'p'] => some .group
  | w => (fitting 2 (decimal w)).map chanStateOfCode

/-- The operands of a line: none after the mnemonic alone, else the pieces between commas. -/
def operands (l : List Char) : List (List Char) := if trim l = [] then [] else splitCommas l

/-- No operand. -/
def noOperand (i : Instr) : List (List Char) → Option Instr
  | [] => some i
  | _ :: _ => none

/-- One operand, a channel. -/
def onChannel (f : Channel → Instr) : List (List Char) → Option Instr
  | [c] => (channelOperand c).map f
  | _ => none

/-- A mnemonic with its operands (R86, R87). -/
def commandOf (mnemonic : List Char) (ops : List (List Char)) : Option Instr :=
  match mnemonic with
  | ['E', 'N', 'A', 'B', 'L', 'E'] => noOperand .enable ops
  | ['R', 'E', 'S', 'E', 'T'] => noOperand .reset ops
  | ['S', 'E', 'T', 'S', 'T', 'A', 'T', 'E'] =>
    match ops with
    | [c, st] => (channelOperand c).bind fun c => (stateOperand st).map fun st => .setstate c st
    | _ => none
  | ['S', 'E', 'T', 'D', 'U', 'T', 'Y'] =>
    match ops with
    | [c, d] => (channelOperand c).bind fun c => (byteOperand d).map fun d => .setduty c d
    | _ => none
  | ['A', 'S', 'S', 'I', 'G', 'N', 'G', 'R', 'P'] => onChannel .assigngrp ops
  | ['G', 'R', 'P', 'D', 'U', 'T', 'Y'] =>
    match ops with
    | [d] => (byteOperand d).map .grpduty
    | _ => none
  | ['G', 'R', 'P', 'B', 'L', 'I', 'N', 'K'] =>
    match ops with
    | [f, d] => (byteOperand f).bind fun f => (byteOperand d).map fun d => .grpblink f d
    | _ => none
  | ['C', 'H', 'K', 'E', 'R', 'R'] => noOperand .chkerr ops
  | ['D', 'E', 'S', 'C', 'E', 'R', 'R'] => noOperand .descerr ops
  | ['C', 'L', 'R', 'E', 'R', 'R'] => noOperand .clrerr ops
  | ['B', 'U', 'S', 'R', 'E', 'S', 'E', 'T'] => noOperand .busreset ops
  | ['T', 'U', 'R', 'N', 'O', 'F', 'F'] => onChannel .turnoff ops
  | ['T', 'U', 'R', 'N', 'O', 'N'] => onChannel .turnon ops
  | ['S', 'E', 'T', 'P', 'W', 'M'] => onChannel .setpwm ops
  | _ => none

/-- What a line of text says (R86). -/
inductive AsmLine where
  /-- No command: blanks or a comment only. -/
  | nothing
  /-- One command. -/
  | command (i : Instr)
  /-- Not a line of R86. -/
  | malformed
  deriving DecidableEq, Repr

/-- A line of text, read (R86). -/
def asmLine (l : List Char) : AsmLine :=
  let t := trim (uncomment l)
  let mnemonic := t.takeWhile fun c => !isBlank c
  if mnemonic = [] then .nothing
  else match commandOf mnemonic (operands (t.drop mnemonic.length)) with
    | some i => .command i
    | none => .malformed

/-- The command words of the lines of a program, in order; none if a line is malformed (R86). -/
def assemble : List (List Char) → Option (List CmdWord)
  | [] => some []
  | l :: ls =>
    match asmLine l with
    | .nothing => assemble ls
    | .command i => (assemble ls).map fun ws => encode i :: ws
    | .malformed => none

/-- A number below 100 in decimal. -/
def decText (n : Nat) : List Char :=
  if n < 10 then [Char.ofNat (48 + n)] else [Char.ofNat (48 + n / 10), Char.ofNat (48 + n % 10)]

/-- A hexadecimal digit. -/
def hexChar (n : Nat) : Char := if n < 10 then Char.ofNat (48 + n) else Char.ofNat (55 + n)

/-- A byte in hexadecimal. -/
def byteText (b : Byte) : List Char := ['0', 'x', hexChar (b.toNat / 16), hexChar (b.toNat % 16)]

/-- A channel state by its name. -/
def stateText : ChanState → List Char
  | .off => ['O', 'f', 'f']
  | .on => ['O', 'n']
  | .pwm => ['P', 'W', 'M']
  | .group => ['G', 'r', 'o', 'u', 'p']

/-- A command as a line of text (R86, R87). -/
def asmText : Instr → List Char
  | .enable => ['E', 'N', 'A', 'B', 'L', 'E']
  | .reset => ['R', 'E', 'S', 'E', 'T']
  | .setstate c st => ['S', 'E', 'T', 'S', 'T', 'A', 'T', 'E', ' '] ++ decText c.toNat ++ [',', ' '] ++ stateText st
  | .setduty c d => ['S', 'E', 'T', 'D', 'U', 'T', 'Y', ' '] ++ decText c.toNat ++ [',', ' '] ++ byteText d
  | .assigngrp c => ['A', 'S', 'S', 'I', 'G', 'N', 'G', 'R', 'P', ' '] ++ decText c.toNat
  | .grpduty d => ['G', 'R', 'P', 'D', 'U', 'T', 'Y', ' '] ++ byteText d
  | .grpblink f d => ['G', 'R', 'P', 'B', 'L', 'I', 'N', 'K', ' '] ++ byteText f ++ [',', ' '] ++ byteText d
  | .chkerr => ['C', 'H', 'K', 'E', 'R', 'R']
  | .descerr => ['D', 'E', 'S', 'C', 'E', 'R', 'R']
  | .clrerr => ['C', 'L', 'R', 'E', 'R', 'R']
  | .busreset => ['B', 'U', 'S', 'R', 'E', 'S', 'E', 'T']
  | .turnoff c => ['T', 'U', 'R', 'N', 'O', 'F', 'F', ' '] ++ decText c.toNat
  | .turnon c => ['T', 'U', 'R', 'N', 'O', 'N', ' '] ++ decText c.toNat
  | .setpwm c => ['S', 'E', 'T', 'P', 'W', 'M', ' '] ++ decText c.toNat

end Sys2Proof.Machine
end

