-- ==== Sys2Proof/Machine/Fixture.lean ====
section
/-! DEFINITION. The host and the reference environment of 20_memory.md R73: how a test presents a command with the
answers to its transactions (00_scope.md R12), and the ideal device that gives them. A fixture for tests, "not a claim
about any chip" (R73): the machine's own register file is `State.readDevice`. -/

namespace Sys2Proof.Machine

/-- `exec(params, state, cmd, answers)` of R12 as a start state: the host presents `w`, the environment will give
`answers`. The step's next state holds `state'`, `trace` and `response`. -/
def State.present (s : State) (w : CmdWord) (answers : List Answer) : State :=
  { s with inputs := .command w :: s.inputs, answers := answers }

/-- The ideal device of R73: a byte `dev[reg]` for each register address of R54 at device address `DEV_ADDR`. -/
structure IdealDevice where
  /-- `dev[0x00]` to `dev[0x17]`. -/
  regs : Vector Byte 24
  /-- `dev[0x1D]`, an input of the test. -/
  eflagLo : Byte
  /-- `dev[0x1E]`, an input of the test. -/
  eflagHi : Byte
  deriving DecidableEq, Repr

/-- `dev[reg]`; none where the device holds no byte (R54, R73). -/
def IdealDevice.read (d : IdealDevice) (reg : Byte) : Option Byte :=
  if reg = eflagLoReg then some d.eflagLo
  else if reg = eflagHiReg then some d.eflagHi
  else d.regs[reg.toNat]?

/-- `dev[reg] <- v` (R73); nothing where the device holds no byte. -/
def IdealDevice.set (d : IdealDevice) (reg v : Byte) : IdealDevice :=
  if reg = eflagLoReg then { d with eflagLo := v }
  else if reg = eflagHiReg then { d with eflagHi := v }
  else { d with regs := d.regs.setIfInBounds reg.toNat v }

/-- The hardware reset of R172 in the fixture: `dev[0x00]` to `dev[0x17]` return to their power-on defaults; the error
flags stay the test's input (R73 is silent on the line: log 22). -/
def IdealDevice.lineReset (d : IdealDevice) (own : DevAddr) : IdealDevice :=
  { d with regs := Vector.ofFn fun r => defaultByte own (BitVec.ofNat 8 r.val) }

/-- What an event that reaches the fixture does to the device at address `own` (R73): a write to it sets the byte,
the broadcast and every other write change nothing, nor does a read. -/
def IdealDevice.take (d : IdealDevice) (own : DevAddr) : Event → IdealDevice
  | .write dev reg v => if dev = own then d.set reg v else d
  | .read _ _ => d
  | .line .inactive => d.lineReset own
  | .line .active => d
  | .hold _ => d

/-- The device after the events of a command, the first transaction among them numbered `n`: a transaction that the
test names in `failing` leaves it unchanged (R73). -/
def IdealDevice.after (d : IdealDevice) (own : DevAddr) (failing : List Nat) : Nat → List Event → IdealDevice
  | _, [] => d
  | n, e :: es =>
    (if e.isTransaction && failing.contains n then d else d.take own e).after own failing
      (if e.isTransaction then n + 1 else n) es

/-- The answers of the ideal device to one command: every transaction succeeds but the numbers in `failing`. Only
CHKERR reads, `dev[0x1D]` first and `dev[0x1E]` second (R151); no command issues more than 17 transactions (R173). -/
def IdealDevice.answers (d : IdealDevice) (failing : List Nat) : List Answer :=
  (List.range 17).map fun k =>
    if failing.contains k then .fail false
    else if k = 0 then .done d.eflagLo
    else if k = 1 then .done d.eflagHi
    else .done 0x00#8

/-- One command in the reference environment: the block and the ideal device before, and both after. -/
def idealRun (s : State) (d : IdealDevice) (failing : List Nat) (w : CmdWord) : State × IdealDevice :=
  match step (s.present w (d.answers failing)) with
  | .next t => (t, d.after s.params.devAddr failing 0 t.trace)
  | .fault _ => (s, d)
  | .refused _ => (s, d)

/-- A sequence of commands, each decoded and run in turn (a program of the host, R32, R197). -/
def runAll : List Instr → State → State
  | [], s => s
  | i :: is, s =>
    match exec i s with
    | .next t => runAll is t
    | .fault _ => s
    | .refused _ => s

end Sys2Proof.Machine
end

