-- ==== Sys2Proof/Safety.lean ====
section
/-! DEFINITION. The terms that statements about the machine are written in: which transactions succeed, what a command
did, what the devices hold afterwards, the ghost predicate `Synced` (10_state.md R34), and the invariant. -/

namespace Sys2Proof.Machine

/-- The environment answers the next `n` transactions with success. -/
def State.succeeds (s : State) (n : Nat) : Prop := ∀ k, k < n → (s.answerAt k).succeeded = true

/-- Of the next transactions, number `n` is the first that fails. -/
def State.failsFirstAt (s : State) (n : Nat) : Prop := s.succeeds n ∧ (s.answerAt n).succeeded = false

/-- The event of a write to the block's own device (R11). -/
def devWrite (s : State) (reg v : Byte) : Event := .write s.params.devAddr reg v

/-- The event of a read of the block's own device (R52). -/
def devRead (s : State) (reg : Byte) : Event := .read s.params.devAddr reg

/-- A command ran from `s` to `t`: it left the block state `b`, emitted exactly `events`, and responded `resp`; the
parameters and the host's script are as before, and each transaction used up one answer. -/
def Ran (s t : State) (b : Block) (events : List Event) (resp : CmdWord) : Prop :=
  t.block = b ∧ t.trace = events ∧ t.response = some resp ∧ t.params = s.params ∧ t.inputs = s.inputs ∧
  t.answers = s.answers.drop (transactions events) ∧ t.issued = s.issued + transactions events

/-- The byte that an event stores at register `r` of device `d`, if it is a write to it. -/
def eventStores (d : DevAddr) (r : Byte) : Event → Option Byte
  | .write d' r' v => if d' = d ∧ r' = r then some v else none
  | .read _ _ => none
  | .line _ => none
  | .hold _ => none

/-- The byte that the last of the events to write register `r` of device `d` stores there, if any does. -/
def storedValue (events : List Event) (d : DevAddr) (r : Byte) : Option Byte :=
  events.reverse.findSome? (eventStores d r)

/-- Whether an event clears the fault latch of device `d` (R66). -/
def clearsFlags (d : DevAddr) : Event → Bool
  | .write d' r v => d' == d && clearsLatch r v
  | .read _ _ => false
  | .line _ => false
  | .hold _ => false

/-- In `t` every device register holds what `events` stored there last, and every register that no event wrote holds
what it held in `s`; of the error flags of a device whose latch an event cleared, nothing is said (R66). -/
def DeviceFollows (s t : State) (events : List Event) : Prop :=
  ∀ d r, (isFlagReg r = true → events.any (clearsFlags d) = false) →
    t.readDevice d r = (storedValue events d r).getD (s.readDevice d r)

/-- In `t` the block's own device is at its power-on defaults (R54 to R60, R172, R205, R220): LEDOUT all zero, BLINK 0,
not enabled, every other register at its free default. -/
def OwnDeviceAtDefaults (t : State) : Prop :=
  (∀ i, t.readDevice t.params.devAddr (ledoutReg i) = 0x00#8) ∧
  (t.readDevice t.params.devAddr modeReg).getLsbD 5 = false ∧
  (t.readDevice t.params.devAddr enableReg).getLsbD 7 = false ∧
  (∀ r, r ≠ enableReg → r ≠ modeReg → (∀ i, r ≠ ledoutReg i) →
    t.readDevice t.params.devAddr r = Config.powerOnByte (loc t.params.devAddr r))

/-- The mirror half of `Synced` (R34): LEDOUT[i] of the device holds `M[i]`. -/
def State.LedoutSynced (s : State) : Prop :=
  ∀ i, s.readDevice s.params.devAddr (ledoutReg i) = s.mirrorByte i

/-- The mode half of `Synced` (R34): bit `0x20` of the device's MODE_REG equals `groupMode`. -/
def State.ModeSynced (s : State) : Prop :=
  (s.readDevice s.params.devAddr modeReg).getLsbD 5 = decide (s.block.groupMode = .blink)

/-- The ghost predicate `Synced` of R34. -/
def State.Synced (s : State) : Prop := s.LedoutSynced ∧ s.ModeSynced

/-- `errMask` holds what R27's table says for `errStatus`. -/
def State.ErrCoherent (s : State) : Prop :=
  (s.block.errStatus = .unknown → s.block.errMask = 0x0000#16) ∧
  (s.block.errStatus = .clean → s.block.errMask = 0xFFFF#16) ∧
  (s.block.errStatus = .faulted → s.block.errMask ≠ 0xFFFF#16) ∧
  (s.block.errStatus = .commFailure → s.block.errMask = s.params.commFailSentinel)

/-- A response word as R88 allows it: status 3 never; with status 1 `k` is at most 16 and the result 0; with status 2
both are 0; with status 0 `k` is a report kind, at most 3. -/
def ResponseLegal (w : CmdWord) : Prop :=
  (w.extractLsb' 22 2 = 0b00#2 ∧ (w.extractLsb' 16 6).toNat ≤ 3) ∨
  (w.extractLsb' 22 2 = 0b01#2 ∧ (w.extractLsb' 16 6).toNat ≤ 16 ∧ w.extractLsb' 0 16 = 0#16) ∨
  w = 0x800000#24

/-- The invariant of the machine: legal parameters (R7), the line at Active between commands (R31, R172), the error
fields coherent (R27), a legal response (R88), the register file in its canonical form. -/
def State.Inv (s : State) : Prop :=
  s.params.legal = true ∧ s.block.resetLine = .active ∧ s.ErrCoherent ∧
  (∀ w, s.response = some w → ResponseLegal w) ∧ Memory.wf s.device = true

end Sys2Proof.Machine
end

