-- ==== Sys2Proof/Certificates/Slice0/Obligations.lean ====
section
/-! DEFINITION. The statements for the provers, from the numbered rules of spec/. `s.succeeds n` says that the
environment answers the next `n` transactions with success; `Ran s t b events resp` says that the command left the block
state `b`, emitted `events` and responded `resp`, every port and parameter accounted for; `DeviceFollows s t events`
says what every byte of the device register space holds afterwards. -/

open Sys2Proof Sys2Proof.Machine

/-! ### Encoding -/

/-- R83, R87: the word of every instruction decodes to it; the word of a pseudo-instruction decodes to the SETSTATE it
stands for. -/
def Obligations.EncodedInstructionDecodesBack : Prop :=
  (∀ i, decode (encode i) = .ok (expandPseudo i)) ∧
  (∀ c, expandPseudo (.turnoff c) = .setstate c .off ∧ expandPseudo (.turnon c) = .setstate c .on ∧
    expandPseudo (.setpwm c) = .setstate c .pwm) ∧
  (∀ i, (∀ c, i ≠ .turnoff c ∧ i ≠ .turnon c ∧ i ≠ .setpwm c) → expandPseudo i = i)

/-- R83: a word that decodes is the encoding of what it decodes to: no bit of a legal word is dropped. -/
def Obligations.DecodedWordEncodesBack : Prop :=
  ∀ w i, decode w = .ok i → encode i = w

/-- R83, R84: the decoder accepts a word exactly when it matches a row of the match and mask table. -/
def Obligations.DecoderAcceptsExactlyTheTableRows : Prop :=
  ∀ w, (∃ i, decode w = .ok i) ↔ ∃ r ∈ opcodeRows, w &&& r.mask = r.matchBits

/-- R83: the rows are disjoint. -/
def Obligations.OpcodeRowsDisjoint : Prop :=
  ∀ w, ∀ r ∈ opcodeRows, ∀ r' ∈ opcodeRows, r.selects w = true → r'.selects w = true → r = r'

/-- Words of 95_test_vectors.md 2.1 decode to the instructions they stand for, and three illegal ones are refused. -/
def Obligations.SampleWordsDecode : Prop :=
  decode 0x000000#24 = .ok .enable ∧ decode 0x100000#24 = .ok .reset ∧ decode 0x2F0300#24 = .ok (.setstate 15#4 .group) ∧
  decode 0x260100#24 = .ok (.setstate 6#4 .on) ∧ decode 0x3FFF00#24 = .ok (.setduty 15#4 0xFF#8) ∧
  decode 0x490000#24 = .ok (.assigngrp 9#4) ∧ decode 0x508000#24 = .ok (.grpduty 0x80#8) ∧
  decode 0x601780#24 = .ok (.grpblink 0x17#8 0x80#8) ∧ decode 0x700000#24 = .ok .chkerr ∧
  decode 0x800000#24 = .ok .descerr ∧ decode 0x900000#24 = .ok .clrerr ∧ decode 0xA0A55A#24 = .ok .busreset ∧
  decode 0xB00000#24 = .error .reservedOpcode ∧ decode 0xA05AA5#24 = .error .badKey ∧
  decode 0x200400#24 = .error .stateHighNotZero

/-- R86, R87: the text of every command, in the assembler's syntax, is read as that command. -/
def Obligations.AssemblerReadsWhatItPrints : Prop :=
  ∀ i, asmLine (asmText i) = .command i

/-! ### The step -/

/-- A step runs the instruction that the word on the command port decodes to, on the state with that word taken. -/
def Obligations.StepRunsDecodedCommand : Prop :=
  ∀ (s : State) w rest i, s.inputs = .command w :: rest → decode w = .ok i →
    step s = exec i { s with inputs := rest }

/-- R84, R192: an illegal word changes no state, issues no transaction, emits no event, and is answered with
status 2, `k` 0, result 0. -/
def Obligations.IllegalWordOnlyResponds : Prop :=
  ∀ (s : State) w rest, s.inputs = .command w :: rest → (∀ r ∈ opcodeRows, w &&& r.mask ≠ r.matchBits) →
    step s = .next { s with inputs := rest, trace := [], response := some 0x800000#24 }

/-- R194, R221: with nothing presented the block waits. That a step with an empty script changes nothing is the
model's reading (log 5). -/
def Obligations.WaitingChangesNothing : Prop :=
  ∀ s : State, s.inputs = [] → step s = .next s

/-- R36, R37: block reset puts the block state at the values of R36's table, whatever it was; it emits no event, takes
no answer, and the device and the parameters keep what they have. That it is an input between commands, and clears the
response port, is the model's choice (log 10, log 19). -/
def Obligations.BlockResetValues : Prop :=
  ∀ (s : State) rest, s.inputs = .blockReset :: rest → ∃ t, step s = .next t ∧
    t.block.mirror = #v[0x00#8, 0x00#8, 0x00#8, 0x00#8] ∧ t.block.groupMode = .pwmDutyOnly ∧
    t.block.errStatus = .unknown ∧ t.block.errMask = 0x0000#16 ∧ t.block.resetLine = .active ∧
    t.trace = [] ∧ t.response = none ∧ t.params = s.params ∧ t.inputs = rest ∧ t.answers = s.answers ∧
    t.issued = s.issued ∧ (∀ d r, t.readDevice d r = s.readDevice d r)

/-- R36: the state that construction leaves, for every value of the parameters; every device register holds the free
value of an undefined hardware state (log 6). -/
def Obligations.ConstructedStateValues : Prop :=
  ∀ p : Params, (State.construct p).params = p ∧
    (State.construct p).block.mirror = #v[0x00#8, 0x00#8, 0x00#8, 0x00#8] ∧
    (State.construct p).block.groupMode = .pwmDutyOnly ∧ (State.construct p).block.errStatus = .unknown ∧
    (State.construct p).block.errMask = 0x0000#16 ∧ (State.construct p).block.resetLine = .active ∧
    (State.construct p).trace = [] ∧
    (∀ d r, (State.construct p).readDevice d r = Config.undefinedByte (loc d r))

/-- R195, R199, R238: no command and no step ever stops the machine. That every transaction is answered, so that every
command comes to its end, is read from R238 (DEDUCED, unsafe, log 3). -/
def Obligations.EveryStepAnswersNextState : Prop :=
  (∀ i s, ∃ t, exec i s = .next t) ∧ (∀ s, ∃ t, step s = .next t)

/-! ### Bit-packing and status outputs -/

/-- R22: register index, bit offset and mask of every channel, as formula and as bit fields. -/
def Obligations.BitPackingFormulas : Prop :=
  ∀ c : Channel, (regIndex c).val = c.toNat / 4 ∧ (regIndex c).val = (c.extractLsb' 2 2).toNat ∧
    bitOffset c = (c.toNat % 4) * 2 ∧ bitOffset c = (c.extractLsb' 0 2 ++ 0#1).toNat ∧
    fieldMask c = 0b11#8 <<< bitOffset c ∧
    (∀ s : State, s.chanState c = (s.mirrorByte (regIndex c)).extractLsb' (bitOffset c) 2)

/-- R25, R27, R31, R38: the status outputs show the mirror and the coded flags; the line output exists exactly when a
reset line is fitted. -/
def Obligations.StatusOutputsShowBlock : Prop :=
  ∀ s : State, s.statusOutputs.mirror = s.block.mirror ∧ s.statusOutputs.errMask = s.block.errMask ∧
    (s.statusOutputs.groupMode = 1#1 ↔ s.block.groupMode = .blink) ∧
    (s.statusOutputs.errStatus = 0#2 ↔ s.block.errStatus = .unknown) ∧
    (s.statusOutputs.errStatus = 1#2 ↔ s.block.errStatus = .clean) ∧
    (s.statusOutputs.errStatus = 2#2 ↔ s.block.errStatus = .faulted) ∧
    (s.statusOutputs.errStatus = 3#2 ↔ s.block.errStatus = .commFailure) ∧
    (s.statusOutputs.resetLine = some 1#1 ↔ s.params.hasResetLine = true ∧ s.block.resetLine = .active) ∧
    (s.statusOutputs.resetLine = some 0#1 ↔ s.params.hasResetLine = true ∧ s.block.resetLine = .inactive) ∧
    (s.statusOutputs.resetLine = none ↔ s.params.hasResetLine = false)

/-! ### The channel-state family -/

/-- R110, for each 2-bit state code `v` and both answers: the word, and what it does. The mirror byte gets the field,
mirror first, then one write of the whole byte, always; on failure TransportError(0), and the mirror keeps the new
byte. What a failed write did to the device is `FailedWriteReachesDeviceOrNot`. -/
def Obligations.SetstateResult : Prop :=
  ∀ (s : State) (c : Channel) (v : BitVec 2),
    let o := (c.toNat % 4) * 2
    let new := (s.mirrorByte (regIndex c) &&& ~~~(0b11#8 <<< o)) ||| (v.setWidth 8 <<< o)
    let b := { s.block with mirror := s.block.mirror.set (c.toNat / 4) new (by omega) }
    let w := devWrite s (0x14#8 + BitVec.ofNat 8 (c.toNat / 4)) new
    decode (0x2#4 ++ c ++ (0#6 ++ v) ++ 0x00#8) = .ok (.setstate c (chanStateOfCode v)) ∧
    (s.succeeds 1 → ∃ t, exec (.setstate c (chanStateOfCode v)) s = .next t ∧ Ran s t b [w] 0x000000#24 ∧
      DeviceFollows s t [w]) ∧
    ((s.answerAt 0).succeeded = false → ∃ t, exec (.setstate c (chanStateOfCode v)) s = .next t ∧
      Ran s t b [w] 0x400000#24)

/-- R111, R112, R113: TURNOFF, TURNON and SETPWM with a successful write, each the field of its fixed state. -/
def Obligations.ThinCallersComplete : Prop :=
  ∀ (s : State) c, s.succeeds 1 →
    let o := (c.toNat % 4) * 2
    let kept := s.mirrorByte (regIndex c) &&& ~~~(0b11#8 <<< o)
    let b := fun new : Byte => { s.block with mirror := s.block.mirror.set (c.toNat / 4) new (by omega) }
    let w := fun new : Byte => devWrite s (0x14#8 + BitVec.ofNat 8 (c.toNat / 4)) new
    (∃ t, exec (.turnoff c) s = .next t ∧ Ran s t (b kept) [w kept] 0x000000#24 ∧ DeviceFollows s t [w kept]) ∧
    (∃ t, exec (.turnon c) s = .next t ∧ Ran s t (b (kept ||| (0b01#8 <<< o))) [w (kept ||| (0b01#8 <<< o))] 0x000000#24 ∧
      DeviceFollows s t [w (kept ||| (0b01#8 <<< o))]) ∧
    (∃ t, exec (.setpwm c) s = .next t ∧ Ran s t (b (kept ||| (0b10#8 <<< o))) [w (kept ||| (0b10#8 <<< o))] 0x000000#24 ∧
      DeviceFollows s t [w (kept ||| (0b10#8 <<< o))])

/-- R87: the block cannot tell a pseudo-instruction from the SETSTATE it expands to, whatever the answers. -/
def Obligations.PseudoInstructionsAreSetstate : Prop :=
  ∀ (s : State) c,
    (exec (.turnoff c) s = exec (.setstate c .off) s ∧ encode (.turnoff c) = encode (.setstate c .off)) ∧
    (exec (.turnon c) s = exec (.setstate c .on) s ∧ encode (.turnon c) = encode (.setstate c .on)) ∧
    (exec (.setpwm c) s = exec (.setstate c .pwm) s ∧ encode (.setpwm c) = encode (.setstate c .pwm))

/-- R115: the isolation contract, whatever the answers: the addressed channel decodes as the state, every other
channel as before, and the byte of the one LEDOUT write is the new mirror byte. -/
def Obligations.SetstateIsolatesChannels : Prop :=
  ∀ (s t : State) c st, exec (.setstate c st) s = .next t →
    t.chanState c = chanStateCode st ∧ (∀ c', c' ≠ c → t.chanState c' = s.chanState c') ∧
    (∀ j : Fin 4, j ≠ regIndex c → t.mirrorByte j = s.mirrorByte j) ∧
    t.trace = [devWrite s (ledoutReg (regIndex c)) (t.mirrorByte (regIndex c))]

/-- R114: ASSIGNGRP with both writes successful: maximum duty strictly before state Group. The code `0b11` of Group is
the spec's general knowledge (PRESUMED, unsafe, log 12). -/
def Obligations.AssigngrpCompletes : Prop :=
  ∀ (s : State) c, s.succeeds 2 →
    let new := s.mirrorByte (regIndex c) ||| (0b11#8 <<< ((c.toNat % 4) * 2))
    let events := [devWrite s (0x02#8 + c.setWidth 8) 0xFF#8, devWrite s (0x14#8 + BitVec.ofNat 8 (c.toNat / 4)) new]
    ∃ t, exec (.assigngrp c) s = .next t ∧
      Ran s t { s.block with mirror := s.block.mirror.set (c.toNat / 4) new (by omega) } events 0x000000#24 ∧
      DeviceFollows s t events ∧ t.chanState c = 0b11#2 ∧ (∀ c', c' ≠ c → t.chanState c' = s.chanState c')

/-- R114, R193: ASSIGNGRP when a write fails: at the duty write nothing of the block changed and no LEDOUT write is
issued; at the LEDOUT write the mirror keeps the new byte. Whether a failed write reached the device is the environment's
(log 4); the code `0b11` of Group is the spec's general knowledge (PRESUMED, unsafe, log 12). -/
def Obligations.AssigngrpFailures : Prop :=
  ∀ (s : State) c r,
    let new := s.mirrorByte (regIndex c) ||| (0b11#8 <<< ((c.toNat % 4) * 2))
    let w0 := devWrite s (0x02#8 + c.setWidth 8) 0xFF#8
    let w1 := devWrite s (0x14#8 + BitVec.ofNat 8 (c.toNat / 4)) new
    (s.answerAt 0 = .fail r → ∃ t, exec (.assigngrp c) s = .next t ∧ Ran s t s.block [w0] 0x400000#24 ∧
      DeviceFollows s t (if r then [w0] else [])) ∧
    (s.succeeds 1 → s.answerAt 1 = .fail r → ∃ t, exec (.assigngrp c) s = .next t ∧
      Ran s t { s.block with mirror := s.block.mirror.set (c.toNat / 4) new (by omega) } [w0, w1] 0x410000#24 ∧
      DeviceFollows s t (if r then [w0, w1] else [w0]))

/-! ### The brightness and group-mode family -/

/-- R130, the word and both answers: one write of the duty, no block state changes either way. -/
def Obligations.SetdutyResult : Prop :=
  ∀ (s : State) (c : Channel) (d : Byte),
    let w := devWrite s (0x02#8 + c.setWidth 8) d
    decode (0x3#4 ++ c ++ d ++ 0x00#8) = .ok (.setduty c d) ∧
    (s.succeeds 1 → ∃ t, exec (.setduty c d) s = .next t ∧ Ran s t s.block [w] 0x000000#24 ∧ DeviceFollows s t [w]) ∧
    ((s.answerAt 0).succeeded = false → ∃ t, exec (.setduty c d) s = .next t ∧ Ran s t s.block [w] 0x400000#24)

/-- R131: GRPDUTY with every write successful, from Blink (mode write `0x00` first) and from PwmDutyOnly. -/
def Obligations.GrpdutyCompletes : Prop :=
  ∀ (s : State) d,
    (s.block.groupMode = .blink → s.succeeds 2 → ∃ t, exec (.grpduty d) s = .next t ∧
      Ran s t { s.block with groupMode := .pwmDutyOnly } [devWrite s 0x01#8 0x00#8, devWrite s 0x12#8 d] 0x000000#24 ∧
      DeviceFollows s t [devWrite s 0x01#8 0x00#8, devWrite s 0x12#8 d]) ∧
    (s.block.groupMode = .pwmDutyOnly → s.succeeds 1 → ∃ t, exec (.grpduty d) s = .next t ∧
      Ran s t s.block [devWrite s 0x12#8 d] 0x000000#24 ∧ DeviceFollows s t [devWrite s 0x12#8 d])

/-- R132: GRPBLINK with every write successful: duty cycle, mode `0x20` only on a transition, frequency code. -/
def Obligations.GrpblinkCompletes : Prop :=
  ∀ (s : State) f d,
    (s.block.groupMode = .pwmDutyOnly → s.succeeds 3 → ∃ t, exec (.grpblink f d) s = .next t ∧
      Ran s t { s.block with groupMode := .blink }
        [devWrite s 0x12#8 d, devWrite s 0x01#8 0x20#8, devWrite s 0x13#8 f] 0x000000#24 ∧
      DeviceFollows s t [devWrite s 0x12#8 d, devWrite s 0x01#8 0x20#8, devWrite s 0x13#8 f]) ∧
    (s.block.groupMode = .blink → s.succeeds 2 → ∃ t, exec (.grpblink f d) s = .next t ∧
      Ran s t s.block [devWrite s 0x12#8 d, devWrite s 0x13#8 f] 0x000000#24 ∧
      DeviceFollows s t [devWrite s 0x12#8 d, devWrite s 0x13#8 f])

/-- R131, R132, R193: GRPDUTY and GRPBLINK at each write that can fail: the response names it, the later steps are not
performed, and the cached mode is the new one exactly when the MODE_REG write was reached. -/
def Obligations.GroupModeFailures : Prop :=
  ∀ (s : State) f d r,
    let toPwm := { s.block with groupMode := .pwmDutyOnly }
    let toBlink := { s.block with groupMode := .blink }
    let m0 := devWrite s 0x01#8 0x00#8
    let m1 := devWrite s 0x01#8 0x20#8
    let wd := devWrite s 0x12#8 d
    let wf := devWrite s 0x13#8 f
    (s.block.groupMode = .blink → s.answerAt 0 = .fail r → ∃ t, exec (.grpduty d) s = .next t ∧
      Ran s t toPwm [m0] 0x400000#24 ∧ DeviceFollows s t (if r then [m0] else [])) ∧
    (s.block.groupMode = .blink → s.succeeds 1 → s.answerAt 1 = .fail r → ∃ t, exec (.grpduty d) s = .next t ∧
      Ran s t toPwm [m0, wd] 0x410000#24 ∧ DeviceFollows s t (if r then [m0, wd] else [m0])) ∧
    (s.block.groupMode = .pwmDutyOnly → s.answerAt 0 = .fail r → ∃ t, exec (.grpduty d) s = .next t ∧
      Ran s t s.block [wd] 0x400000#24 ∧ DeviceFollows s t (if r then [wd] else [])) ∧
    (s.answerAt 0 = .fail r → ∃ t, exec (.grpblink f d) s = .next t ∧
      Ran s t s.block [wd] 0x400000#24 ∧ DeviceFollows s t (if r then [wd] else [])) ∧
    (s.block.groupMode = .pwmDutyOnly → s.succeeds 1 → s.answerAt 1 = .fail r → ∃ t, exec (.grpblink f d) s = .next t ∧
      Ran s t toBlink [wd, m1] 0x410000#24 ∧ DeviceFollows s t (if r then [wd, m1] else [wd])) ∧
    (s.block.groupMode = .pwmDutyOnly → s.succeeds 2 → s.answerAt 2 = .fail r → ∃ t, exec (.grpblink f d) s = .next t ∧
      Ran s t toBlink [wd, m1, wf] 0x420000#24 ∧ DeviceFollows s t (if r then [wd, m1, wf] else [wd, m1])) ∧
    (s.block.groupMode = .blink → s.succeeds 1 → s.answerAt 1 = .fail r → ∃ t, exec (.grpblink f d) s = .next t ∧
      Ran s t s.block [wd, wf] 0x410000#24 ∧ DeviceFollows s t (if r then [wd, wf] else [wd]))

/-- R133: GRPDUTY, GRPBLINK, GRPBLINK, GRPDUTY from PwmDutyOnly with every write successful: the whole trace of each;
MODE_REG is written exactly twice, `0x20` in the first GRPBLINK and `0x00` in the second GRPDUTY. -/
def Obligations.ModeBitTogglesExactlyTwice : Prop :=
  ∀ (s s1 s2 s3 s4 : State) d1 f2 d2 f3 d3 d4, s.block.groupMode = .pwmDutyOnly → s.succeeds 8 →
    exec (.grpduty d1) s = .next s1 → exec (.grpblink f2 d2) s1 = .next s2 → exec (.grpblink f3 d3) s2 = .next s3 →
    exec (.grpduty d4) s3 = .next s4 →
    s1.trace = [devWrite s 0x12#8 d1] ∧
    s2.trace = [devWrite s 0x12#8 d2, devWrite s 0x01#8 0x20#8, devWrite s 0x13#8 f2] ∧
    s3.trace = [devWrite s 0x12#8 d3, devWrite s 0x13#8 f3] ∧
    s4.trace = [devWrite s 0x01#8 0x00#8, devWrite s 0x12#8 d4] ∧
    s2.block.groupMode = .blink ∧ s3.block.groupMode = .blink ∧
    s4.block.groupMode = .pwmDutyOnly

/-! ### The error family -/

/-- R151: CHKERR, whatever the answers: two reads, low first, the second issued even after a failed first; the error
fields; the response always OK with the boolean; nothing else changes. -/
def Obligations.ChkerrCompletes : Prop :=
  ∀ s : State, ∃ t, exec .chkerr s = .next t ∧
    (∀ lo hi, s.answerAt 0 = .done lo → s.answerAt 1 = .done hi →
      let m := (hi.setWidth 16 <<< 8) ||| lo.setWidth 16
      Ran s t { s.block with errMask := m, errStatus := if m = 0xFFFF#16 then .clean else .faulted }
        [devRead s 0x1D#8, devRead s 0x1E#8] (if m = 0xFFFF#16 then 0x000000#24 else 0x000001#24)) ∧
    ((s.answerAt 0).succeeded = false ∨ (s.answerAt 1).succeeded = false →
      Ran s t { s.block with errMask := s.params.commFailSentinel, errStatus := .commFailure }
        [devRead s 0x1D#8, devRead s 0x1E#8] 0x000001#24) ∧
    (∀ d r, t.readDevice d r = s.readDevice d r)

/-- R94, R28: the mask assembled from the two bytes read, which bit belongs to which byte, and that a 0 bit is what
DESCERR then reports as a faulted channel, a 1 bit as none. -/
def Obligations.ErrorMaskAssembly : Prop :=
  ∀ (s t u : State) lo hi w, s.answerAt 0 = .done lo → s.answerAt 1 = .done hi → exec .chkerr s = .next t →
    exec .descerr t = .next u → u.response = some w →
    t.trace = [devRead s 0x1D#8, devRead s 0x1E#8] ∧
    t.block.errMask = (hi.setWidth 16 <<< 8) ||| lo.setWidth 16 ∧
    (∀ i, i < 8 → t.block.errMask.getLsbD i = lo.getLsbD i) ∧
    (∀ i, i < 8 → t.block.errMask.getLsbD (8 + i) = hi.getLsbD i) ∧
    (∀ i, i < 16 → (w.getLsbD i = true ↔ t.block.errMask.getLsbD i = false)) ∧
    (t.block.errStatus = .clean ↔ t.block.errMask = 0xFFFF#16)

/-- R150: the error state machine: Unknown at block reset and never again, CHKERR moves from any state by its two reads
alone, and no other instruction changes the state. -/
def Obligations.ErrorStateMachine : Prop :=
  (∀ p, (State.construct p).block.errStatus = .unknown) ∧ (∀ s : State, s.blockReset.block.errStatus = .unknown) ∧
  (∀ s t : State, exec .chkerr s = .next t →
    (∀ lo hi, s.answerAt 0 = .done lo → s.answerAt 1 = .done hi →
      (t.block.errStatus = .clean ↔ lo = 0xFF#8 ∧ hi = 0xFF#8) ∧
      (t.block.errStatus = .faulted ↔ ¬(lo = 0xFF#8 ∧ hi = 0xFF#8))) ∧
    ((s.answerAt 0).succeeded = false ∨ (s.answerAt 1).succeeded = false → t.block.errStatus = .commFailure) ∧
    t.block.errStatus ≠ .unknown) ∧
  (∀ i (s t : State), i ≠ .chkerr → exec i s = .next t →
    t.block.errStatus = s.block.errStatus ∧ t.block.errMask = s.block.errMask)

/-- R152: DESCERR, in every state: no transaction, no change, and the report of the last check; the kind and the vector
before any check are the spec's own choice (D10). -/
def Obligations.DescerrReports : Prop :=
  ∀ s : State, ∃ t, exec .descerr s = .next t ∧
    (s.block.errStatus = .faulted → Ran s t s.block [] (0x02#8 ++ ~~~s.block.errMask)) ∧
    (s.block.errStatus = .commFailure → Ran s t s.block [] 0x030000#24) ∧
    (s.block.errStatus = .clean → Ran s t s.block [] 0x010000#24) ∧
    (s.block.errStatus = .unknown → Ran s t s.block [] 0x000000#24) ∧
    (∀ d r, t.readDevice d r = s.readDevice d r)

/-- R152: in state Faulted the result lists exactly the channels whose mask bit is 0. -/
def Obligations.DescerrListsFaultedChannels : Prop :=
  ∀ (s t : State) w, s.block.errStatus = .faulted → exec .descerr s = .next t → t.response = some w →
    ∀ i, i < 16 → (w.getLsbD i = true ↔ s.block.errMask.getLsbD i = false)

/-- R227: DESCERR reports the past: after any sequence of commands without CHKERR it gives the answer it gave before,
without a transaction. -/
def Obligations.DescerrReportsThePast : Prop :=
  ∀ (is : List Instr) (s t u : State), (∀ i ∈ is, i ≠ .chkerr) → exec .descerr s = .next t →
    exec .descerr (runAll is s) = .next u → u.response = t.response ∧ u.trace = []

/-- R153, the word and all answers: the pulse is two writes of MODE_REG with nothing between them, both carrying the
cached mode bit; at a failed write the response names it, and no block state changes in any case. -/
def Obligations.ClrerrResult : Prop :=
  decode 0x900000#24 = .ok .clrerr ∧
  ∀ s : State,
    let m := if s.block.groupMode = .blink then 0x20#8 else 0x00#8
    let w0 := devWrite s 0x01#8 (0x80#8 ||| m)
    let w1 := devWrite s 0x01#8 m
    (s.succeeds 2 → ∃ t, exec .clrerr s = .next t ∧ Ran s t s.block [w0, w1] 0x000000#24 ∧ DeviceFollows s t [w0, w1]) ∧
    ((s.answerAt 0).succeeded = false → ∃ t, exec .clrerr s = .next t ∧ Ran s t s.block [w0] 0x400000#24) ∧
    (s.failsFirstAt 1 → ∃ t, exec .clrerr s = .next t ∧ Ran s t s.block [w0, w1] 0x410000#24)

/-- R154: device faults are data: whatever the error fields hold, every command but DESCERR does the same and leaves the
same, and the error registers are read by CHKERR alone. -/
def Obligations.ErrorFieldsAffectNoOtherCommand : Prop :=
  (∀ i (s t : State) e m, i ≠ .descerr → i ≠ .chkerr → exec i s = .next t →
    exec i { s with block := { s.block with errStatus := e, errMask := m } } =
      .next { t with block := { t.block with errStatus := e, errMask := m } }) ∧
  (∀ (s : State) e m, exec .chkerr { s with block := { s.block with errStatus := e, errMask := m } } = exec .chkerr s) ∧
  (∀ i (s t : State) d r, exec i s = .next t → .read d r ∈ t.trace → i = .chkerr)

/-! ### The enable and reset family -/

/-- R170, the word and both answers: one write of `0x80`, no block state changes either way. -/
def Obligations.EnableResult : Prop :=
  decode 0x000000#24 = .ok .enable ∧
  ∀ s : State,
    (s.succeeds 1 → ∃ t, exec .enable s = .next t ∧ Ran s t s.block [devWrite s 0x00#8 0x80#8] 0x000000#24 ∧
      DeviceFollows s t [devWrite s 0x00#8 0x80#8]) ∧
    ((s.answerAt 0).succeeded = false → ∃ t, exec .enable s = .next t ∧
      Ran s t s.block [devWrite s 0x00#8 0x80#8] 0x400000#24)

/-- R172: RESET with a reset line: the pulse, then the enable write exactly once; the mirror zero, the mode PwmDutyOnly,
the line Active, the error fields kept, whether the write succeeds or not. -/
def Obligations.ResetByLineResult : Prop :=
  ∀ s : State, s.params.hasResetLine = true →
    let b := { s.block with mirror := #v[0x00#8, 0x00#8, 0x00#8, 0x00#8], groupMode := .pwmDutyOnly, resetLine := .active }
    let events := [.line .inactive, .hold s.params.tResetMin, .line .active, devWrite s 0x00#8 0x80#8]
    (s.succeeds 1 → ∃ t, exec .reset s = .next t ∧ Ran s t b events 0x000000#24) ∧
    ((s.answerAt 0).succeeded = false → ∃ t, exec .reset s = .next t ∧ Ran s t b events 0x400000#24)

/-- R172, R220: what the device holds after a RESET with a reset line: LEDOUT zero and the mode bit 0 whether the
enable write succeeds or not, the enable register `0x80` unless the write failed to reach it, every other register at
the free value of its power-on default (log 7), and other devices as before. That the hardware reset clears the mode bit is the spec's general
knowledge (93 G4), the enable bit after it is the model's reading of R205 (log 7). -/
def Obligations.ResetByLineDevice : Prop :=
  ∀ s t : State, s.params.hasResetLine = true → exec .reset s = .next t →
    (∀ i, t.readDevice s.params.devAddr (ledoutReg i) = 0x00#8) ∧
    (t.readDevice s.params.devAddr modeReg).getLsbD 5 = false ∧
    (s.answerAt 0 ≠ .fail false → t.readDevice s.params.devAddr enableReg = 0x80#8) ∧
    (s.answerAt 0 = .fail false → (t.readDevice s.params.devAddr enableReg).getLsbD 7 = false) ∧
    (∀ r, r ≠ enableReg → r ≠ modeReg → (∀ i, r ≠ ledoutReg i) →
      t.readDevice s.params.devAddr r = Config.powerOnByte (loc s.params.devAddr r)) ∧
    (∀ d r, d ≠ s.params.devAddr → t.readDevice d r = s.readDevice d r)

/-- R173: RESET without a reset line, every transaction successful: for each channel in ascending order its field and
those below it in the byte are cleared and the byte is written, seventeen transactions in all; the mirror ends zero,
mode, line and error fields unchanged. -/
def Obligations.ResetByWritesCompletes : Prop :=
  ∀ s : State, s.params.hasResetLine = false → s.succeeds 17 →
    let byteAt := fun c : Channel =>
      (s.mirrorByte (regIndex c) >>> (2 * (c.toNat % 4) + 2)) <<< (2 * (c.toNat % 4) + 2)
    let events := allChannels.map (fun c => devWrite s (0x14#8 + BitVec.ofNat 8 (c.toNat / 4)) (byteAt c)) ++
      [devWrite s 0x00#8 0x80#8]
    ∃ t, exec .reset s = .next t ∧
      Ran s t { s.block with mirror := #v[0x00#8, 0x00#8, 0x00#8, 0x00#8] } events 0x000000#24 ∧
      DeviceFollows s t events

/-- R173, R193: RESET without a reset line stops at the first failed write `k`: it issued writes 0 to `k` of the
sequence of `ResetByWritesCompletes` and no other, the fields of channels 0 to `k` are cleared, the others keep theirs,
and nothing else of the block changes; with `k` 16, the enable write, the mirror is zero. -/
def Obligations.ResetByWritesStopsAtFailedWrite : Prop :=
  ∀ (s : State) k, s.params.hasResetLine = false → k ≤ 16 → s.failsFirstAt k →
    let byteAt := fun c : Channel =>
      (s.mirrorByte (regIndex c) >>> (2 * (c.toNat % 4) + 2)) <<< (2 * (c.toNat % 4) + 2)
    let events := allChannels.map (fun c => devWrite s (0x14#8 + BitVec.ofNat 8 (c.toNat / 4)) (byteAt c)) ++
      [devWrite s 0x00#8 0x80#8]
    ∃ t, exec .reset s = .next t ∧ t.trace = events.take (k + 1) ∧
      t.response = some (0b01#2 ++ BitVec.ofNat 6 k ++ 0#16) ∧
      (∀ c : Channel, t.chanState c = if c.toNat ≤ k then 0b00#2 else s.chanState c) ∧
      t.block = { s.block with mirror := t.block.mirror } ∧ t.params = s.params ∧ t.inputs = s.inputs ∧
      t.answers = s.answers.drop (k + 1) ∧ t.issued = s.issued + (k + 1)

/-- R233: without a reset line a successful RESET makes LEDOUT agree with the mirror, and leaves the device's mode
bit, duties, group duty and frequency registers as they were. -/
def Obligations.ResetByWritesConvergesLedoutOnly : Prop :=
  ∀ s t : State, s.params.hasResetLine = false → s.succeeds 17 → exec .reset s = .next t →
    t.LedoutSynced ∧ (∀ c, t.chanState c = 0b00#2) ∧ t.block.groupMode = s.block.groupMode ∧
    (∀ d r, r ≠ enableReg → (∀ i, r ≠ ledoutReg i) → t.readDevice d r = s.readDevice d r)

/-- R174: BUSRESET, whatever the answer: the one broadcast write, no block state changes, TransportError(0) on failure;
when it reaches the bus the own device is at its power-on defaults and every register of any other device at a free
value, else every device register is as before. The effect on the devices is the model's reading of R174 and R220
(log 8). -/
def Obligations.BusresetResult : Prop :=
  ∀ s : State,
    (s.succeeds 1 → ∃ t, exec .busreset s = .next t ∧ Ran s t s.block [.write 0x6B#7 0xA5#8 0x5A#8] 0x000000#24 ∧
      OwnDeviceAtDefaults t ∧
      (∀ d r, d ≠ s.params.devAddr → t.readDevice d r = Config.powerOnByte (loc d r))) ∧
    (∀ r, s.answerAt 0 = .fail r → ∃ t, exec .busreset s = .next t ∧
      Ran s t s.block [.write 0x6B#7 0xA5#8 0x5A#8] 0x400000#24 ∧
      (r = true → OwnDeviceAtDefaults t ∧
        (∀ d q, d ≠ s.params.devAddr → t.readDevice d q = Config.powerOnByte (loc d q))) ∧
      (r = false → ∀ d q, t.readDevice d q = s.readDevice d q))

/-- R175: no instruction other than BUSRESET issues the broadcast, on any path, and BUSRESET issues nothing else. -/
def Obligations.OnlyBusresetBroadcasts : Prop :=
  (∀ i (s t : State), exec i s = .next t → .write 0x6B#7 0xA5#8 0x5A#8 ∈ t.trace → i = .busreset) ∧
  (∀ s t : State, exec .busreset s = .next t → t.trace = [.write 0x6B#7 0xA5#8 0x5A#8])

/-! ### The whole machine -/

/-- R20: who writes what: the parameters by nothing; the mirror by the channel-state instructions and RESET; the group
mode by GRPDUTY, GRPBLINK and RESET with a line; the error fields by CHKERR; the line only by RESET with a line. -/
def Obligations.WritersOfBlockState : Prop :=
  ∀ i (s t : State), exec i s = .next t →
    t.params = s.params ∧
    (t.block.mirror ≠ s.block.mirror → i = .reset ∨ ∃ c, (∃ st, i = .setstate c st) ∨ i = .turnoff c ∨ i = .turnon c ∨
      i = .setpwm c ∨ i = .assigngrp c) ∧
    (t.block.groupMode ≠ s.block.groupMode → (∃ d, i = .grpduty d) ∨ (∃ f d, i = .grpblink f d) ∨
      (i = .reset ∧ s.params.hasResetLine = true)) ∧
    (t.block.errStatus ≠ s.block.errStatus ∨ t.block.errMask ≠ s.block.errMask → i = .chkerr) ∧
    (t.block.resetLine ≠ s.block.resetLine → i = .reset ∧ s.params.hasResetLine = true ∧ t.block.resetLine = .active)

/-- R92: every byte that reaches a duty, group-duty or frequency register is the command's operand unchanged, but
ASSIGNGRP's `0xFF`. -/
def Obligations.DutyBytesUnchanged : Prop :=
  ∀ i (s t : State) d reg v, exec i s = .next t → .write d reg v ∈ t.trace →
    (∀ c : Channel, reg = 0x02#8 + c.setWidth 8 → i = .setduty c v ∨ (i = .assigngrp c ∧ v = 0xFF#8)) ∧
    (reg = 0x12#8 → i = .grpduty v ∨ ∃ f, i = .grpblink f v) ∧
    (reg = 0x13#8 → ∃ dc, i = .grpblink v dc)

/-- R133, R134: which commands write MODE_REG, and with which byte: GRPDUTY from Blink writes `0x00`, GRPBLINK from
PwmDutyOnly `0x20`, CLRERR the cached mode bit with and without CLR; nothing else writes it. -/
def Obligations.ModeRegisterWriters : Prop :=
  ∀ i (s t : State) d v, exec i s = .next t → .write d 0x01#8 v ∈ t.trace →
    ((∃ dc, i = .grpduty dc) ∧ s.block.groupMode = .blink ∧ v = 0x00#8) ∨
    ((∃ f dc, i = .grpblink f dc) ∧ s.block.groupMode = .pwmDutyOnly ∧ v = 0x20#8) ∨
    (i = .clrerr ∧ (s.block.groupMode = .blink → v = 0xA0#8 ∨ v = 0x20#8) ∧
      (s.block.groupMode = .pwmDutyOnly → v = 0x80#8 ∨ v = 0x00#8))

/-- R54, R63: every transaction goes to a register of the map at `DEV_ADDR`, a read only to the error flags, but
BUSRESET's. -/
def Obligations.TransactionsStayInTheMap : Prop :=
  ∀ i (s t : State), exec i s = .next t → i ≠ .busreset →
    (∀ d reg v, .write d reg v ∈ t.trace → d = s.params.devAddr ∧ reg.toNat ≤ 0x17) ∧
    (∀ d reg, .read d reg ∈ t.trace → i = .chkerr ∧ d = s.params.devAddr ∧ (reg = 0x1D#8 ∨ reg = 0x1E#8))

/-- R12, R67: every transaction of a command uses up exactly one answer, in order; no command issues more than 17; the
host's script and the parameters are untouched. -/
def Obligations.EveryTransactionTakesOneAnswer : Prop :=
  ∀ i (s t : State), exec i s = .next t →
    t.answers = s.answers.drop (transactions t.trace) ∧ t.issued = s.issued + transactions t.trace ∧
    transactions t.trace ≤ 17 ∧ t.inputs = s.inputs ∧ t.params = s.params

/-- R191, R195, R196: TransportError(k) is precise: it is reported exactly when a transaction of the command other than
a read failed; then transaction `k` is the one that failed, every earlier one succeeded, and no later one was issued. -/
def Obligations.TransportErrorIsPrecise : Prop :=
  ∀ i (s t : State), exec i s = .next t →
    (∀ k, k < 64 → t.response = some (0b01#2 ++ BitVec.ofNat 6 k ++ 0#16) →
      k ≤ 16 ∧ i ≠ .chkerr ∧ transactions t.trace = k + 1 ∧ s.failsFirstAt k) ∧
    (i ≠ .chkerr → (∃ k, k < transactions t.trace ∧ (s.answerAt k).succeeded = false) →
      ∃ k, k ≤ 16 ∧ t.response = some (0b01#2 ++ BitVec.ofNat 6 k ++ 0#16))

/-- R53: what a failed write did to the device: when a command ends with TransportError(k), the device register space
holds what the trace says, the last write included if the environment lets it through (log 4), and without it if not;
for every command but the two that reset devices. That MODE_REG then keeps the CLR bit of the last byte that reached it
(CLRERR cut short) is the model's choice, since R56 leaves it open (DEDUCED, unsafe, log 13). Of the error flags nothing
is said once a write with CLR 1 has reached the device (R66, log 9). -/
def Obligations.FailedWriteReachesDeviceOrNot : Prop :=
  ∀ i (s t : State) k, exec i s = .next t → i ≠ .busreset → (i = .reset → s.params.hasResetLine = false) → k ≤ 16 →
    t.response = some (0b01#2 ++ BitVec.ofNat 6 k ++ 0#16) →
    (s.answerAt k = .fail true → DeviceFollows s t t.trace) ∧
    (s.answerAt k = .fail false → DeviceFollows s t t.trace.dropLast)

/-- When no write of a command failed, the device register space holds what the trace says, for every command but the
two that reset devices. That a register holds the byte last written is the model's choice for the CLR bit (DEDUCED,
log 13); of the error flags nothing is said after a CLR pulse (R66, log 9). -/
def Obligations.DeviceFollowsTrace : Prop :=
  ∀ i (s t : State), exec i s = .next t → i ≠ .busreset → (i = .reset → s.params.hasResetLine = false) →
    (∀ k, k < transactions t.trace → (s.answerAt k).succeeded = true) → DeviceFollows s t t.trace

/-- R53, R71: the block never learns what the device holds, nor whether a failed write reached it: two states that
agree on the block, the parameters and which transactions succeed (for CHKERR, on the bytes read as well) give the
same block state, trace and response. -/
def Obligations.BlockIndependentOfDevice : Prop :=
  ∀ i (s s' t t' : State), s'.block = s.block → s'.params = s.params →
    (∀ k, (s'.answerAt k).succeeded = (s.answerAt k).succeeded) →
    (i = .chkerr → ∀ k b, s'.answerAt k = .done b ↔ s.answerAt k = .done b) →
    exec i s = .next t → exec i s' = .next t' →
    t'.block = t.block ∧ t'.trace = t.trace ∧ t'.response = t.response

/-- The invariant of the machine holds after every step from every state in which it holds. -/
def Obligations.StepKeepsInvariant : Prop :=
  ∀ s t : State, s.Inv → step s = .next t → t.Inv

/-- The invariant holds at reset, and after construction with any legal parameters. -/
def Obligations.ResetMeetsInvariant : Prop :=
  State.reset.Inv ∧ ∀ p : Params, p.legal = true → (State.construct p).Inv

/-- R34: every command but BUSRESET whose transactions all succeed preserves `Synced`. -/
def Obligations.SuccessfulCommandKeepsSynced : Prop :=
  ∀ i (s t : State), i ≠ .busreset → s.Synced → exec i s = .next t →
    (∀ k, k < transactions t.trace → (s.answerAt k).succeeded = true) → t.Synced

/-- R34, R199: with a reset line, a RESET whose transaction succeeds establishes `Synced` from every state. -/
def Obligations.ResetByLineRestoresSynced : Prop :=
  ∀ s t : State, s.params.hasResetLine = true → s.succeeds 1 → exec .reset s = .next t → t.Synced

/-- R134, R226: after GRPBLINK then GRPDUTY or GRPDUTY then GRPBLINK with every write successful, and after a
successful CLRERR, the device's mode bit equals the cached one, whatever the device held before. -/
def Obligations.ModeBitRepaired : Prop :=
  (∀ (s t u : State) f d d', s.succeeds 5 → exec (.grpblink f d) s = .next t → exec (.grpduty d') t = .next u →
    u.ModeSynced) ∧
  (∀ (s t u : State) f d d', s.succeeds 5 → exec (.grpduty d') s = .next t → exec (.grpblink f d) t = .next u →
    u.ModeSynced) ∧
  (∀ s t : State, s.succeeds 2 → exec .clrerr s = .next t → t.ModeSynced)

/-- R193, R234: a GRPDUTY or GRPBLINK whose MODE_REG write failed, repeated, does not issue the mode write again: the
cache already shows the new mode. -/
def Obligations.RepeatedGroupCommandSkipsModeWrite : Prop :=
  ∀ (s t u : State) f d,
    (s.block.groupMode = .blink → (s.answerAt 0).succeeded = false →
      exec (.grpduty d) s = .next t → exec (.grpduty d) t = .next u → ∀ v, devWrite s 0x01#8 v ∉ u.trace) ∧
    (s.block.groupMode = .pwmDutyOnly → s.failsFirstAt 1 →
      exec (.grpblink f d) s = .next t → exec (.grpblink f d) t = .next u → ∀ v, devWrite s 0x01#8 v ∉ u.trace)

/-- R117, R236: a channel put into the group and then into another state keeps the maximum duty in the device. -/
def Obligations.DutyStaysAfterLeavingGroup : Prop :=
  ∀ (s t u : State) c st, s.succeeds 3 → exec (.assigngrp c) s = .next t → exec (.setstate c st) t = .next u →
    u.readDevice s.params.devAddr (0x02#8 + c.setWidth 8) = 0xFF#8 ∧ u.chanState c = chanStateCode st

/-! ### The reference environment -/

/-- R73: the ideal device. A write to `DEV_ADDR` sets the byte of a register it holds, and only that; the broadcast and
a read change nothing. In every command a transaction named as failing is answered `fail` and leaves the device as it
was; of the others a write is answered with success, and a read with the byte `dev[reg]`. -/
def Obligations.IdealDeviceAnswersAsSpecified : Prop :=
  (∀ (d : IdealDevice) own reg v q, (d.take own (.write own reg v)).read q =
    if reg = q ∧ (q.toNat ≤ 0x17 ∨ q = 0x1D#8 ∨ q = 0x1E#8) then some v else d.read q) ∧
  (∀ (d : IdealDevice) own, d.take own (.write 0x6B#7 0xA5#8 0x5A#8) = d ∧ ∀ reg, d.take own (.read own reg) = d) ∧
  (∀ i (s t : State) (d : IdealDevice) failing k e, (∀ n, n < 17 → s.answers[n]? = (d.answers failing)[n]?) →
    exec i s = .next t → (t.trace.filter Event.isTransaction)[k]? = some e →
    (k ∈ failing → s.answerAt k = .fail false) ∧
    (k ∉ failing → (s.answerAt k).succeeded = true ∧
      ∀ dev reg, e = .read dev reg → (d.read reg).map Answer.done = some (s.answerAt k))) ∧
  (∀ (d : IdealDevice) own failing n e es, n ∈ failing → e.isTransaction = true →
    d.after own failing n (e :: es) = d.after own failing (n + 1) es)

/-- R34, R73: over one command other than BUSRESET, with any transactions failing, the machine's register file and the
ideal device stay equal on registers `0x00` to `0x17`. That a RESET by the line puts the ideal device at the defaults
of R172 is the model's reading (log 22). -/
def Obligations.IdealDeviceAgreesWithRegisterFile : Prop :=
  ∀ (s : State) (d : IdealDevice) failing w,
    (∀ r, r.toNat ≤ 0x17 → d.read r = some (s.readDevice s.params.devAddr r)) → w ≠ 0xA0A55A#24 →
    let t := (idealRun s d failing w).1
    t.params = s.params ∧
    ∀ r, r.toNat ≤ 0x17 → (idealRun s d failing w).2.read r = some (t.readDevice s.params.devAddr r)
end

