-- ==== Sys2Proof/Laws/Encoding.lean ====
section
/-! SUPPORT. The fields of a command word: each field of `cmdWord` reads back, and a word is the word of its fields. -/

namespace Sys2Proof

@[simp] theorem opField_cmdWord (op : BitVec 4) (ch : Channel) (a b : Byte) : opField (cmdWord op ch a b) = op := by
  apply BitVec.eq_of_getLsbD_eq; intro i hi
  simp only [opField, cmdWord, BitVec.getLsbD_extractLsb', BitVec.getLsbD_append]
  simp [hi, show ¬ 20 + i < 8 by omega, show ¬ 20 + i - 8 < 8 by omega, show ¬ 20 + i - 8 - 8 < 4 by omega,
    show 20 + i - 8 - 8 - 4 = i by omega]

@[simp] theorem chField_cmdWord (op : BitVec 4) (ch : Channel) (a b : Byte) : chField (cmdWord op ch a b) = ch := by
  apply BitVec.eq_of_getLsbD_eq; intro i hi
  simp only [chField, cmdWord, BitVec.getLsbD_extractLsb', BitVec.getLsbD_append]
  simp [hi, show ¬ 16 + i < 8 by omega, show ¬ 16 + i - 8 < 8 by omega,
    show 16 + i - 8 - 8 = i by omega]

@[simp] theorem aField_cmdWord (op : BitVec 4) (ch : Channel) (a b : Byte) : aField (cmdWord op ch a b) = a := by
  apply BitVec.eq_of_getLsbD_eq; intro i hi
  simp only [aField, cmdWord, BitVec.getLsbD_extractLsb', BitVec.getLsbD_append]
  simp [hi, show ¬ 8 + i < 8 by omega, show 8 + i - 8 = i by omega]

@[simp] theorem bField_cmdWord (op : BitVec 4) (ch : Channel) (a b : Byte) : bField (cmdWord op ch a b) = b := by
  apply BitVec.eq_of_getLsbD_eq; intro i hi
  simp only [bField, cmdWord, BitVec.getLsbD_extractLsb', BitVec.getLsbD_append]
  simp [hi]

theorem cmdWord_fields (w : CmdWord) : cmdWord (opField w) (chField w) (aField w) (bField w) = w := by
  apply BitVec.eq_of_getLsbD_eq; intro i hi
  simp only [opField, chField, aField, bField, cmdWord, BitVec.getLsbD_extractLsb', BitVec.getLsbD_append]
  by_cases h8 : i < 8
  · simp [h8]
  · by_cases h16 : i - 8 < 8
    · simp [h8, h16, show 8 + (i - 8) = i by omega]
    · by_cases h20 : i - 8 - 8 < 4
      · simp [h8, h16, h20, show 16 + (i - 8 - 8) = i by omega]
      · simp [h8, h16, h20, show i - 8 - 8 - 4 < 4 by omega, show 20 + (i - 8 - 8 - 4) = i by omega]

theorem cmdWord_inj {op op' : BitVec 4} {ch ch' : Channel} {a a' b b' : Byte} :
    cmdWord op ch a b = cmdWord op' ch' a' b' ↔ op = op' ∧ ch = ch' ∧ a = a' ∧ b = b' := by
  constructor
  · intro h
    exact ⟨by simpa using congrArg opField h, by simpa using congrArg chField h, by simpa using congrArg aField h,
      by simpa using congrArg bField h⟩
  · rintro ⟨rfl, rfl, rfl, rfl⟩; rfl

/-- A mask of a word masks each field. -/
theorem cmdWord_and (op op' : BitVec 4) (ch ch' : Channel) (a a' b b' : Byte) :
    cmdWord op ch a b &&& cmdWord op' ch' a' b' = cmdWord (op &&& op') (ch &&& ch') (a &&& a') (b &&& b') := by
  apply BitVec.eq_of_getLsbD_eq; intro i hi
  simp only [cmdWord, BitVec.getLsbD_and, BitVec.getLsbD_append]
  split
  · simp
  · split
    · simp
    · split <;> simp

/-- What a field check passes on: the field is zero and the rest accepted. -/
theorem ifZero_ok {n : Nat} {v : BitVec n} {e : DecodeError} {r : Except DecodeError Instr} {i : Instr} :
    ifZero v e r = .ok i ↔ v = 0 ∧ r = .ok i := by
  unfold ifZero; split <;> simp_all

@[simp] theorem chanStateOfCode_code (st : ChanState) : chanStateOfCode (chanStateCode st) = st := by cases st <;> rfl

@[simp] theorem chanStateCode_ofCode (v : BitVec 2) : chanStateCode (chanStateOfCode v) = v := by revert v; decide

end Sys2Proof
end

