-- ==== Sys2Proof/Laws/Memory.lean ====
section
/-! SUPPORT. The laws of the device register file: read after write, locations are distinct, every operation keeps
the canonical form. -/

namespace Sys2Proof.Machine

theorem Memory.read_write_same (m : Memory) (a : Nat) (v : Byte) : (m.write a v).read a = some v := by
  induction m with
  | nil => simp [Memory.write, Memory.read]
  | cons c m ih =>
    simp only [Memory.write]
    split
    · simp [Memory.read]
    · split
      · simp [Memory.read]
      · rename_i h; simp [Memory.read, Ne.symm h, ih]

theorem Memory.read_write_other (m : Memory) {a b : Nat} (v : Byte) (h : a ≠ b) :
    (m.write a v).read b = m.read b := by
  induction m with
  | nil => simp [Memory.write, Memory.read, h]
  | cons c m ih =>
    simp only [Memory.write]
    split
    · simp [Memory.read, h]
    · split
      · rename_i hc; simp [Memory.read, h, ← hc]
      · simp [Memory.read, ih]

theorem Memory.read_forget (m : Memory) (dev : DevAddr) (a : Nat) :
    (m.forget dev).read a = if a / 256 = dev.toNat then none else m.read a := by
  induction m with
  | nil => simp [Memory.forget, Memory.read]
  | cons c m ih =>
    simp only [Memory.forget, List.filter_cons] at ih ⊢
    by_cases hc : c.1 / 256 = dev.toNat
    · by_cases ha : c.1 = a
      · subst ha; simp_all
      · simp_all [Memory.read]
    · by_cases ha : c.1 = a
      · subst ha; simp_all [Memory.read]
      · simp_all [Memory.read]

theorem loc_div (dev : DevAddr) (reg : Byte) : loc dev reg / 256 = dev.toNat := by
  have := reg.isLt; simp only [loc]; omega

theorem loc_lt (dev : DevAddr) (reg : Byte) : loc dev reg < 32768 := by
  have := reg.isLt; have := dev.isLt; simp only [loc]; omega

theorem loc_inj {d e : DevAddr} {r q : Byte} : loc d r = loc e q ↔ d = e ∧ r = q := by
  constructor
  · intro h
    have := r.isLt; have := q.isLt
    simp only [loc] at h
    exact ⟨BitVec.eq_of_toNat_eq (by omega), BitVec.eq_of_toNat_eq (by omega)⟩
  · rintro ⟨rfl, rfl⟩; rfl

/-- Reading a location after a write at a named register. -/
theorem Memory.read_write_loc (m : Memory) (d e : DevAddr) (r q v : Byte) :
    (m.write (loc d r) v).read (loc e q) = if d = e ∧ r = q then some v else m.read (loc e q) := by
  split
  · rename_i h; obtain ⟨rfl, rfl⟩ := h; exact Memory.read_write_same _ _ _
  · rename_i h; exact Memory.read_write_other _ _ (fun hl => h (loc_inj.mp hl))

theorem isFlagReg_iff (q : Byte) : isFlagReg q = true ↔ q = eflagLoReg ∨ q = eflagHiReg := by
  simp [isFlagReg]

/-- A write that clears the fault latch is a write of MODE_REG. -/
theorem eq_modeReg_of_clearsLatch {r v : Byte} (h : clearsLatch r v = true) : r = modeReg := by
  simp only [clearsLatch, Bool.and_eq_true, beq_iff_eq] at h; exact h.1

/-- Read after write: the register written, the error flags if the write clears the latch, every other register. -/
theorem State.readDevice_storeDevice (s : State) (d e : DevAddr) (r q v : Byte) :
    (s.storeDevice d r v).readDevice e q =
      if d = e ∧ r = q then v
      else if clearsLatch r v = true ∧ d = e ∧ isFlagReg q = true then Config.clearedFlags s.issued (loc e q)
      else s.readDevice e q := by
  simp only [State.readDevice, State.storeDevice, Memory.store, isFlagReg_iff]
  by_cases hc : clearsLatch r v = true
  · have hr := eq_modeReg_of_clearsLatch hc
    subst hr
    simp only [hc, if_true, Memory.read_write_loc]
    by_cases hd : d = e
    · subst hd
      by_cases h1 : q = eflagHiReg
      · subst h1; simp [show ¬ modeReg = eflagHiReg by decide]
      · by_cases h0 : q = eflagLoReg
        · subst h0; simp [show ¬ modeReg = eflagLoReg by decide, show ¬ eflagHiReg = eflagLoReg by decide]
        · by_cases hm : modeReg = q
          · simp [hm, Ne.symm h0, Ne.symm h1]
          · simp [hm, h0, h1, Ne.symm h0, Ne.symm h1]; rfl
    · simp [hd]; rfl
  · rw [if_neg hc, Memory.read_write_loc]
    by_cases h : d = e ∧ r = q
    · simp [h]
    · simp [h, hc]; rfl

theorem Memory.wf_tail {c : Host.Cell} {m : Memory} (h : Memory.wf (c :: m) = true) : Memory.wf m = true := by
  cases m with
  | nil => rfl
  | cons d m => simp only [Memory.wf, Bool.and_eq_true] at h; exact h.2

theorem Memory.wf_cons {c : Host.Cell} {m : Memory} :
    Memory.wf (c :: m) = true ↔ c.1 < 32768 ∧ (∀ d ∈ m.head?, c.1 < d.1) ∧ Memory.wf m = true := by
  induction m generalizing c with
  | nil => simp [Memory.wf]
  | cons d m ih =>
    simp only [Memory.wf, Bool.and_eq_true, decide_eq_true_eq, List.head?_cons, Option.mem_some_iff, forall_eq']
    constructor
    · rintro ⟨h, hm⟩
      exact ⟨by have := (ih.mp hm).1; omega, h, hm⟩
    · rintro ⟨_, h, hm⟩; exact ⟨h, hm⟩

theorem Memory.wf_write {m : Memory} {a : Nat} (v : Byte) (ha : a < 32768) (h : m.wf = true) :
    (m.write a v).wf = true := by
  induction m with
  | nil => simp [Memory.write, Memory.wf, ha]
  | cons c m ih =>
    have hc := Memory.wf_cons.mp h
    simp only [Memory.write]
    split
    · rename_i hlt; exact Memory.wf_cons.mpr ⟨ha, by simpa using hlt, h⟩
    · split
      · rename_i heq; subst heq; exact Memory.wf_cons.mpr hc
      · rename_i hn hne
        refine Memory.wf_cons.mpr ⟨hc.1, ?_, ih hc.2.2⟩
        intro d hd
        cases m with
        | nil => simp [Memory.write] at hd; subst hd; simp; omega
        | cons e m =>
          have he : c.1 < e.1 := hc.2.1 e (by simp)
          simp only [Memory.write] at hd
          split at hd
          · simp at hd; subst hd; simp; omega
          · split at hd
            · simp at hd; subst hd; simp; omega
            · simp at hd; subst hd; exact he

theorem Memory.wf_lt_of_mem {c d : Host.Cell} {m : Memory} (h : Memory.wf (c :: m) = true) (hd : d ∈ m) :
    c.1 < d.1 := by
  induction m generalizing c with
  | nil => simp at hd
  | cons e m ih =>
    have hc := Memory.wf_cons.mp h
    have he : c.1 < e.1 := hc.2.1 e (by simp)
    rcases List.mem_cons.mp hd with rfl | hm
    · exact he
    · exact Nat.lt_trans he (ih hc.2.2 hm)

theorem Memory.wf_forget {m : Memory} (dev : DevAddr) (h : m.wf = true) : (m.forget dev).wf = true := by
  induction m with
  | nil => rfl
  | cons c m ih =>
    have hc := Memory.wf_cons.mp h
    simp only [Memory.forget, List.filter_cons] at ih ⊢
    split
    · refine Memory.wf_cons.mpr ⟨hc.1, ?_, ih hc.2.2⟩
      intro d hd
      exact Memory.wf_lt_of_mem h (List.mem_of_mem_filter (List.mem_of_mem_head? hd))
    · exact ih hc.2.2

theorem Memory.wf_store {m : Memory} (n : Nat) (dev : DevAddr) (reg v : Byte) (h : m.wf = true) :
    (m.store n dev reg v).wf = true := by
  unfold Memory.store
  split
  · exact Memory.wf_write _ (loc_lt _ _) (Memory.wf_write _ (loc_lt _ _) (Memory.wf_write v (loc_lt dev reg) h))
  · exact Memory.wf_write v (loc_lt dev reg) h

/-- What a location reads as after the stated defaults of a device were put in. -/
theorem Memory.read_putDefaults (m : Memory) (d e : DevAddr) (q : Byte) :
    (m.putDefaults d).read (loc e q) =
      if d = e ∧ q ∈ defaultRegs then some (defaultByte d q) else m.read (loc e q) := by
  have key : ∀ (rs : List Byte) (m : Memory),
      (rs.foldl (fun m r => m.write (loc d r) (defaultByte d r)) m).read (loc e q) =
        if d = e ∧ q ∈ rs then some (defaultByte d q) else m.read (loc e q) := by
    intro rs
    induction rs with
    | nil => simp
    | cons r rs ih =>
      intro m
      simp only [List.foldl_cons, ih, Memory.read_write_loc, List.mem_cons]
      by_cases hd : d = e
      · by_cases hq : q ∈ rs
        · simp [hd, hq]
        · by_cases hr : r = q
          · simp [hd, hr]
          · simp [hr, hq, Ne.symm hr]
      · simp [hd]
  exact key _ _

theorem Memory.wf_putDefaults {m : Memory} (dev : DevAddr) (h : m.wf = true) : (m.putDefaults dev).wf = true := by
  have key : ∀ (rs : List Byte) (m : Memory), m.wf = true →
      (rs.foldl (fun m r => m.write (loc dev r) (defaultByte dev r)) m).wf = true := by
    intro rs
    induction rs with
    | nil => exact fun _ h => h
    | cons r rs ih => exact fun m h => ih _ (Memory.wf_write _ (loc_lt _ _) h)
  exact key _ _ h

/-- A register without a stated default holds its free default. -/
theorem defaultByte_of_not_mem (dev : DevAddr) {r : Byte} (h : r ∉ defaultRegs) :
    defaultByte dev r = Config.powerOnByte (loc dev r) := by
  have key : ∀ r, r ∉ defaultRegs → isLedoutReg r = false ∧ ¬ r = modeReg ∧ ¬ r = enableReg := by decide
  simp [defaultByte, key r h]

/-- What every register holds after a reset of the block's own device. -/
theorem State.readDevice_lineResetDevice (s : State) (d : DevAddr) (r : Byte) :
    s.lineResetDevice.readDevice d r =
      if d = s.params.devAddr then defaultByte d r else s.readDevice d r := by
  simp only [State.readDevice, State.lineResetDevice, State.unlistedByte, Memory.read_putDefaults, Memory.read_forget,
    loc_div]
  by_cases h : d = s.params.devAddr
  · subst h
    by_cases hr : r ∈ defaultRegs
    · simp [hr]
    · simp [hr, defaultByte_of_not_mem _ hr]
  · have : ¬ d.toNat = s.params.devAddr.toNat := fun e => h (BitVec.eq_of_toNat_eq e)
    simp [h, Ne.symm h, this]

/-- What every register holds after the broadcast reached the bus. -/
theorem State.readDevice_busResetDevices (s : State) (d : DevAddr) (r : Byte) :
    s.busResetDevices.readDevice d r =
      if d = s.params.devAddr then defaultByte d r else Config.powerOnByte (loc d r) := by
  simp only [State.readDevice, State.busResetDevices, State.unlistedByte, Memory.read_putDefaults, Memory.read]
  by_cases h : d = s.params.devAddr
  · subst h
    by_cases hr : r ∈ defaultRegs
    · simp [hr]
    · simp [hr, defaultByte_of_not_mem _ hr]
  · simp [h, Ne.symm h]

theorem defaultByte_ledoutReg (dev : DevAddr) (i : Fin 4) : defaultByte dev (ledoutReg i) = 0x00#8 := by
  have h : isLedoutReg (ledoutReg i) = true := by revert i; decide
  simp [defaultByte, h]

theorem defaultByte_modeReg (dev : DevAddr) : (defaultByte dev modeReg).getLsbD 5 = false := by
  simp [defaultByte, show isLedoutReg modeReg = false by decide, blinkBit]

theorem defaultByte_enableReg (dev : DevAddr) : (defaultByte dev enableReg).getLsbD 7 = false := by
  simp [defaultByte, show isLedoutReg enableReg = false by decide, show ¬ enableReg = modeReg by decide, enableByte]

theorem defaultByte_other (dev : DevAddr) {r : Byte} (h0 : r ≠ enableReg) (h1 : r ≠ modeReg)
    (h2 : ∀ i, r ≠ ledoutReg i) : defaultByte dev r = Config.powerOnByte (loc dev r) :=
  defaultByte_of_not_mem dev (by simpa [defaultRegs, h0, h1] using fun i => Ne.symm (h2 i))

end Sys2Proof.Machine
end

