-- ==== Sys2Proof/Laws/State.lean ====
section
/-! SUPPORT. One lemma per field per update of the state, true by rfl. -/

namespace Sys2Proof.Machine

section Updates

variable (s : State)

@[simp] theorem State.setMirror_block_mirror (i : Fin 4) (v : Byte) : (s.setMirror i v).block.mirror = s.block.mirror.set i.val v i.isLt := rfl
@[simp] theorem State.setMirror_block_groupMode (i : Fin 4) (v : Byte) : (s.setMirror i v).block.groupMode = s.block.groupMode := rfl
@[simp] theorem State.setMirror_block_errStatus (i : Fin 4) (v : Byte) : (s.setMirror i v).block.errStatus = s.block.errStatus := rfl
@[simp] theorem State.setMirror_block_errMask (i : Fin 4) (v : Byte) : (s.setMirror i v).block.errMask = s.block.errMask := rfl
@[simp] theorem State.setMirror_block_resetLine (i : Fin 4) (v : Byte) : (s.setMirror i v).block.resetLine = s.block.resetLine := rfl
@[simp] theorem State.setMirror_params (i : Fin 4) (v : Byte) : (s.setMirror i v).params = s.params := rfl
@[simp] theorem State.setMirror_block (i : Fin 4) (v : Byte) : (s.setMirror i v).block = { s.block with mirror := s.block.mirror.set i.val v i.isLt } := rfl
@[simp] theorem State.setMirror_response (i : Fin 4) (v : Byte) : (s.setMirror i v).response = s.response := rfl
@[simp] theorem State.setMirror_trace (i : Fin 4) (v : Byte) : (s.setMirror i v).trace = s.trace := rfl
@[simp] theorem State.setMirror_inputs (i : Fin 4) (v : Byte) : (s.setMirror i v).inputs = s.inputs := rfl
@[simp] theorem State.setMirror_answers (i : Fin 4) (v : Byte) : (s.setMirror i v).answers = s.answers := rfl
@[simp] theorem State.setMirror_issued (i : Fin 4) (v : Byte) : (s.setMirror i v).issued = s.issued := rfl
@[simp] theorem State.setMirror_device (i : Fin 4) (v : Byte) : (s.setMirror i v).device = s.device := rfl
@[simp] theorem State.setMirror_resets (i : Fin 4) (v : Byte) : (s.setMirror i v).resets = s.resets := rfl

@[simp] theorem State.clearMirror_block_mirror : (s.clearMirror).block.mirror = #v[0x00#8, 0x00#8, 0x00#8, 0x00#8] := rfl
@[simp] theorem State.clearMirror_block_groupMode : (s.clearMirror).block.groupMode = s.block.groupMode := rfl
@[simp] theorem State.clearMirror_block_errStatus : (s.clearMirror).block.errStatus = s.block.errStatus := rfl
@[simp] theorem State.clearMirror_block_errMask : (s.clearMirror).block.errMask = s.block.errMask := rfl
@[simp] theorem State.clearMirror_block_resetLine : (s.clearMirror).block.resetLine = s.block.resetLine := rfl
@[simp] theorem State.clearMirror_params : (s.clearMirror).params = s.params := rfl
@[simp] theorem State.clearMirror_block : (s.clearMirror).block = { s.block with mirror := #v[0x00#8, 0x00#8, 0x00#8, 0x00#8] } := rfl
@[simp] theorem State.clearMirror_response : (s.clearMirror).response = s.response := rfl
@[simp] theorem State.clearMirror_trace : (s.clearMirror).trace = s.trace := rfl
@[simp] theorem State.clearMirror_inputs : (s.clearMirror).inputs = s.inputs := rfl
@[simp] theorem State.clearMirror_answers : (s.clearMirror).answers = s.answers := rfl
@[simp] theorem State.clearMirror_issued : (s.clearMirror).issued = s.issued := rfl
@[simp] theorem State.clearMirror_device : (s.clearMirror).device = s.device := rfl
@[simp] theorem State.clearMirror_resets : (s.clearMirror).resets = s.resets := rfl

@[simp] theorem State.setGroupMode_block_mirror (g : GroupMode) : (s.setGroupMode g).block.mirror = s.block.mirror := rfl
@[simp] theorem State.setGroupMode_block_groupMode (g : GroupMode) : (s.setGroupMode g).block.groupMode = g := rfl
@[simp] theorem State.setGroupMode_block_errStatus (g : GroupMode) : (s.setGroupMode g).block.errStatus = s.block.errStatus := rfl
@[simp] theorem State.setGroupMode_block_errMask (g : GroupMode) : (s.setGroupMode g).block.errMask = s.block.errMask := rfl
@[simp] theorem State.setGroupMode_block_resetLine (g : GroupMode) : (s.setGroupMode g).block.resetLine = s.block.resetLine := rfl
@[simp] theorem State.setGroupMode_params (g : GroupMode) : (s.setGroupMode g).params = s.params := rfl
@[simp] theorem State.setGroupMode_block (g : GroupMode) : (s.setGroupMode g).block = { s.block with groupMode := g } := rfl
@[simp] theorem State.setGroupMode_response (g : GroupMode) : (s.setGroupMode g).response = s.response := rfl
@[simp] theorem State.setGroupMode_trace (g : GroupMode) : (s.setGroupMode g).trace = s.trace := rfl
@[simp] theorem State.setGroupMode_inputs (g : GroupMode) : (s.setGroupMode g).inputs = s.inputs := rfl
@[simp] theorem State.setGroupMode_answers (g : GroupMode) : (s.setGroupMode g).answers = s.answers := rfl
@[simp] theorem State.setGroupMode_issued (g : GroupMode) : (s.setGroupMode g).issued = s.issued := rfl
@[simp] theorem State.setGroupMode_device (g : GroupMode) : (s.setGroupMode g).device = s.device := rfl
@[simp] theorem State.setGroupMode_resets (g : GroupMode) : (s.setGroupMode g).resets = s.resets := rfl

@[simp] theorem State.setErr_block_mirror (e : ErrStatus × Mask16) : (s.setErr e).block.mirror = s.block.mirror := rfl
@[simp] theorem State.setErr_block_groupMode (e : ErrStatus × Mask16) : (s.setErr e).block.groupMode = s.block.groupMode := rfl
@[simp] theorem State.setErr_block_errStatus (e : ErrStatus × Mask16) : (s.setErr e).block.errStatus = e.1 := rfl
@[simp] theorem State.setErr_block_errMask (e : ErrStatus × Mask16) : (s.setErr e).block.errMask = e.2 := rfl
@[simp] theorem State.setErr_block_resetLine (e : ErrStatus × Mask16) : (s.setErr e).block.resetLine = s.block.resetLine := rfl
@[simp] theorem State.setErr_params (e : ErrStatus × Mask16) : (s.setErr e).params = s.params := rfl
@[simp] theorem State.setErr_block (e : ErrStatus × Mask16) : (s.setErr e).block = { s.block with errStatus := e.1, errMask := e.2 } := rfl
@[simp] theorem State.setErr_response (e : ErrStatus × Mask16) : (s.setErr e).response = s.response := rfl
@[simp] theorem State.setErr_trace (e : ErrStatus × Mask16) : (s.setErr e).trace = s.trace := rfl
@[simp] theorem State.setErr_inputs (e : ErrStatus × Mask16) : (s.setErr e).inputs = s.inputs := rfl
@[simp] theorem State.setErr_answers (e : ErrStatus × Mask16) : (s.setErr e).answers = s.answers := rfl
@[simp] theorem State.setErr_issued (e : ErrStatus × Mask16) : (s.setErr e).issued = s.issued := rfl
@[simp] theorem State.setErr_device (e : ErrStatus × Mask16) : (s.setErr e).device = s.device := rfl
@[simp] theorem State.setErr_resets (e : ErrStatus × Mask16) : (s.setErr e).resets = s.resets := rfl

@[simp] theorem State.setLine_block_mirror (l : LineLevel) : (s.setLine l).block.mirror = s.block.mirror := rfl
@[simp] theorem State.setLine_block_groupMode (l : LineLevel) : (s.setLine l).block.groupMode = s.block.groupMode := rfl
@[simp] theorem State.setLine_block_errStatus (l : LineLevel) : (s.setLine l).block.errStatus = s.block.errStatus := rfl
@[simp] theorem State.setLine_block_errMask (l : LineLevel) : (s.setLine l).block.errMask = s.block.errMask := rfl
@[simp] theorem State.setLine_block_resetLine (l : LineLevel) : (s.setLine l).block.resetLine = l := rfl
@[simp] theorem State.setLine_params (l : LineLevel) : (s.setLine l).params = s.params := rfl
@[simp] theorem State.setLine_block (l : LineLevel) : (s.setLine l).block = { s.block with resetLine := l } := rfl
@[simp] theorem State.setLine_response (l : LineLevel) : (s.setLine l).response = s.response := rfl
@[simp] theorem State.setLine_trace (l : LineLevel) : (s.setLine l).trace = s.trace := rfl
@[simp] theorem State.setLine_inputs (l : LineLevel) : (s.setLine l).inputs = s.inputs := rfl
@[simp] theorem State.setLine_answers (l : LineLevel) : (s.setLine l).answers = s.answers := rfl
@[simp] theorem State.setLine_issued (l : LineLevel) : (s.setLine l).issued = s.issued := rfl
@[simp] theorem State.setLine_device (l : LineLevel) : (s.setLine l).device = s.device := rfl
@[simp] theorem State.setLine_resets (l : LineLevel) : (s.setLine l).resets = s.resets := rfl

@[simp] theorem State.emit_params (e : Event) : (s.emit e).params = s.params := rfl
@[simp] theorem State.emit_block (e : Event) : (s.emit e).block = s.block := rfl
@[simp] theorem State.emit_response (e : Event) : (s.emit e).response = s.response := rfl
@[simp] theorem State.emit_trace (e : Event) : (s.emit e).trace = s.trace ++ [e] := rfl
@[simp] theorem State.emit_inputs (e : Event) : (s.emit e).inputs = s.inputs := rfl
@[simp] theorem State.emit_answers (e : Event) : (s.emit e).answers = s.answers := rfl
@[simp] theorem State.emit_issued (e : Event) : (s.emit e).issued = s.issued := rfl
@[simp] theorem State.emit_device (e : Event) : (s.emit e).device = s.device := rfl
@[simp] theorem State.emit_resets (e : Event) : (s.emit e).resets = s.resets := rfl

@[simp] theorem State.takeAnswer_params : (s.takeAnswer).params = s.params := rfl
@[simp] theorem State.takeAnswer_block : (s.takeAnswer).block = s.block := rfl
@[simp] theorem State.takeAnswer_response : (s.takeAnswer).response = s.response := rfl
@[simp] theorem State.takeAnswer_trace : (s.takeAnswer).trace = s.trace := rfl
@[simp] theorem State.takeAnswer_inputs : (s.takeAnswer).inputs = s.inputs := rfl
@[simp] theorem State.takeAnswer_answers : (s.takeAnswer).answers = s.answers.drop 1 := rfl
@[simp] theorem State.takeAnswer_issued : (s.takeAnswer).issued = s.issued + 1 := rfl
@[simp] theorem State.takeAnswer_device : (s.takeAnswer).device = s.device := rfl
@[simp] theorem State.takeAnswer_resets : (s.takeAnswer).resets = s.resets := rfl

@[simp] theorem State.beginCommand_params : (s.beginCommand).params = s.params := rfl
@[simp] theorem State.beginCommand_block : (s.beginCommand).block = s.block := rfl
@[simp] theorem State.beginCommand_response : (s.beginCommand).response = s.response := rfl
@[simp] theorem State.beginCommand_trace : (s.beginCommand).trace = [] := rfl
@[simp] theorem State.beginCommand_inputs : (s.beginCommand).inputs = s.inputs := rfl
@[simp] theorem State.beginCommand_answers : (s.beginCommand).answers = s.answers := rfl
@[simp] theorem State.beginCommand_issued : (s.beginCommand).issued = s.issued := rfl
@[simp] theorem State.beginCommand_device : (s.beginCommand).device = s.device := rfl
@[simp] theorem State.beginCommand_resets : (s.beginCommand).resets = s.resets := rfl

@[simp] theorem State.respond_params (w : CmdWord) : (s.respond w).params = s.params := rfl
@[simp] theorem State.respond_block (w : CmdWord) : (s.respond w).block = s.block := rfl
@[simp] theorem State.respond_response (w : CmdWord) : (s.respond w).response = some w := rfl
@[simp] theorem State.respond_trace (w : CmdWord) : (s.respond w).trace = s.trace := rfl
@[simp] theorem State.respond_inputs (w : CmdWord) : (s.respond w).inputs = s.inputs := rfl
@[simp] theorem State.respond_answers (w : CmdWord) : (s.respond w).answers = s.answers := rfl
@[simp] theorem State.respond_issued (w : CmdWord) : (s.respond w).issued = s.issued := rfl
@[simp] theorem State.respond_device (w : CmdWord) : (s.respond w).device = s.device := rfl
@[simp] theorem State.respond_resets (w : CmdWord) : (s.respond w).resets = s.resets := rfl

@[simp] theorem State.storeDevice_params (dev : DevAddr) (reg : Byte) (v : Byte) : (s.storeDevice dev reg v).params = s.params := rfl
@[simp] theorem State.storeDevice_block (dev : DevAddr) (reg : Byte) (v : Byte) : (s.storeDevice dev reg v).block = s.block := rfl
@[simp] theorem State.storeDevice_response (dev : DevAddr) (reg : Byte) (v : Byte) : (s.storeDevice dev reg v).response = s.response := rfl
@[simp] theorem State.storeDevice_trace (dev : DevAddr) (reg : Byte) (v : Byte) : (s.storeDevice dev reg v).trace = s.trace := rfl
@[simp] theorem State.storeDevice_inputs (dev : DevAddr) (reg : Byte) (v : Byte) : (s.storeDevice dev reg v).inputs = s.inputs := rfl
@[simp] theorem State.storeDevice_answers (dev : DevAddr) (reg : Byte) (v : Byte) : (s.storeDevice dev reg v).answers = s.answers := rfl
@[simp] theorem State.storeDevice_issued (dev : DevAddr) (reg : Byte) (v : Byte) : (s.storeDevice dev reg v).issued = s.issued := rfl
@[simp] theorem State.storeDevice_device (dev : DevAddr) (reg : Byte) (v : Byte) : (s.storeDevice dev reg v).device = s.device.store s.issued dev reg v := rfl
@[simp] theorem State.storeDevice_resets (dev : DevAddr) (reg : Byte) (v : Byte) : (s.storeDevice dev reg v).resets = s.resets := rfl

@[simp] theorem State.lineResetDevice_params : (s.lineResetDevice).params = s.params := rfl
@[simp] theorem State.lineResetDevice_block : (s.lineResetDevice).block = s.block := rfl
@[simp] theorem State.lineResetDevice_response : (s.lineResetDevice).response = s.response := rfl
@[simp] theorem State.lineResetDevice_trace : (s.lineResetDevice).trace = s.trace := rfl
@[simp] theorem State.lineResetDevice_inputs : (s.lineResetDevice).inputs = s.inputs := rfl
@[simp] theorem State.lineResetDevice_answers : (s.lineResetDevice).answers = s.answers := rfl
@[simp] theorem State.lineResetDevice_issued : (s.lineResetDevice).issued = s.issued := rfl
@[simp] theorem State.lineResetDevice_device : (s.lineResetDevice).device = (s.device.forget s.params.devAddr).putDefaults s.params.devAddr := rfl
@[simp] theorem State.lineResetDevice_resets : (s.lineResetDevice).resets = { s.resets with own := true } := rfl

@[simp] theorem State.busResetDevices_params : (s.busResetDevices).params = s.params := rfl
@[simp] theorem State.busResetDevices_block : (s.busResetDevices).block = s.block := rfl
@[simp] theorem State.busResetDevices_response : (s.busResetDevices).response = s.response := rfl
@[simp] theorem State.busResetDevices_trace : (s.busResetDevices).trace = s.trace := rfl
@[simp] theorem State.busResetDevices_inputs : (s.busResetDevices).inputs = s.inputs := rfl
@[simp] theorem State.busResetDevices_answers : (s.busResetDevices).answers = s.answers := rfl
@[simp] theorem State.busResetDevices_issued : (s.busResetDevices).issued = s.issued := rfl
@[simp] theorem State.busResetDevices_device : (s.busResetDevices).device = Memory.putDefaults [] s.params.devAddr := rfl
@[simp] theorem State.busResetDevices_resets : (s.busResetDevices).resets = { own := true, others := true } := rfl

@[simp] theorem State.blockReset_params : (s.blockReset).params = s.params := rfl
@[simp] theorem State.blockReset_block : (s.blockReset).block = Block.afterReset := rfl
@[simp] theorem State.blockReset_response : (s.blockReset).response = none := rfl
@[simp] theorem State.blockReset_trace : (s.blockReset).trace = [] := rfl
@[simp] theorem State.blockReset_inputs : (s.blockReset).inputs = s.inputs := rfl
@[simp] theorem State.blockReset_answers : (s.blockReset).answers = s.answers := rfl
@[simp] theorem State.blockReset_issued : (s.blockReset).issued = s.issued := rfl
@[simp] theorem State.blockReset_device : (s.blockReset).device = s.device := rfl
@[simp] theorem State.blockReset_resets : (s.blockReset).resets = s.resets := rfl

end Updates

/-! What an update leaves of the views of the state. -/

section Views

variable (s : State)

@[simp] theorem State.answerAt_setMirror (i : Fin 4) (v : Byte) (k : Nat) : (s.setMirror i v).answerAt k = s.answerAt k := rfl
@[simp] theorem State.readDevice_setMirror (i : Fin 4) (v : Byte) (d : DevAddr) (q : Byte) : (s.setMirror i v).readDevice d q = s.readDevice d q := rfl
@[simp] theorem State.answerAt_clearMirror (k : Nat) : s.clearMirror.answerAt k = s.answerAt k := rfl
@[simp] theorem State.readDevice_clearMirror (d : DevAddr) (q : Byte) : s.clearMirror.readDevice d q = s.readDevice d q := rfl
@[simp] theorem State.answerAt_setGroupMode (g : GroupMode) (k : Nat) : (s.setGroupMode g).answerAt k = s.answerAt k := rfl
@[simp] theorem State.readDevice_setGroupMode (g : GroupMode) (d : DevAddr) (q : Byte) : (s.setGroupMode g).readDevice d q = s.readDevice d q := rfl
@[simp] theorem State.mirrorByte_setGroupMode (g : GroupMode) (j : Fin 4) : (s.setGroupMode g).mirrorByte j = s.mirrorByte j := rfl
@[simp] theorem State.chanState_setGroupMode (g : GroupMode) (c : Channel) : (s.setGroupMode g).chanState c = s.chanState c := rfl
@[simp] theorem State.answerAt_setErr (e : ErrStatus × Mask16) (k : Nat) : (s.setErr e).answerAt k = s.answerAt k := rfl
@[simp] theorem State.readDevice_setErr (e : ErrStatus × Mask16) (d : DevAddr) (q : Byte) : (s.setErr e).readDevice d q = s.readDevice d q := rfl
@[simp] theorem State.mirrorByte_setErr (e : ErrStatus × Mask16) (j : Fin 4) : (s.setErr e).mirrorByte j = s.mirrorByte j := rfl
@[simp] theorem State.chanState_setErr (e : ErrStatus × Mask16) (c : Channel) : (s.setErr e).chanState c = s.chanState c := rfl
@[simp] theorem State.answerAt_setLine (l : LineLevel) (k : Nat) : (s.setLine l).answerAt k = s.answerAt k := rfl
@[simp] theorem State.readDevice_setLine (l : LineLevel) (d : DevAddr) (q : Byte) : (s.setLine l).readDevice d q = s.readDevice d q := rfl
@[simp] theorem State.mirrorByte_setLine (l : LineLevel) (j : Fin 4) : (s.setLine l).mirrorByte j = s.mirrorByte j := rfl
@[simp] theorem State.chanState_setLine (l : LineLevel) (c : Channel) : (s.setLine l).chanState c = s.chanState c := rfl
@[simp] theorem State.answerAt_emit (e : Event) (k : Nat) : (s.emit e).answerAt k = s.answerAt k := rfl
@[simp] theorem State.readDevice_emit (e : Event) (d : DevAddr) (q : Byte) : (s.emit e).readDevice d q = s.readDevice d q := rfl
@[simp] theorem State.mirrorByte_emit (e : Event) (j : Fin 4) : (s.emit e).mirrorByte j = s.mirrorByte j := rfl
@[simp] theorem State.chanState_emit (e : Event) (c : Channel) : (s.emit e).chanState c = s.chanState c := rfl
@[simp] theorem State.readDevice_takeAnswer (d : DevAddr) (q : Byte) : s.takeAnswer.readDevice d q = s.readDevice d q := rfl
@[simp] theorem State.mirrorByte_takeAnswer (j : Fin 4) : s.takeAnswer.mirrorByte j = s.mirrorByte j := rfl
@[simp] theorem State.chanState_takeAnswer (c : Channel) : s.takeAnswer.chanState c = s.chanState c := rfl
@[simp] theorem State.answerAt_beginCommand (k : Nat) : s.beginCommand.answerAt k = s.answerAt k := rfl
@[simp] theorem State.readDevice_beginCommand (d : DevAddr) (q : Byte) : s.beginCommand.readDevice d q = s.readDevice d q := rfl
@[simp] theorem State.mirrorByte_beginCommand (j : Fin 4) : s.beginCommand.mirrorByte j = s.mirrorByte j := rfl
@[simp] theorem State.chanState_beginCommand (c : Channel) : s.beginCommand.chanState c = s.chanState c := rfl
@[simp] theorem State.answerAt_respond (w : CmdWord) (k : Nat) : (s.respond w).answerAt k = s.answerAt k := rfl
@[simp] theorem State.readDevice_respond (w : CmdWord) (d : DevAddr) (q : Byte) : (s.respond w).readDevice d q = s.readDevice d q := rfl
@[simp] theorem State.mirrorByte_respond (w : CmdWord) (j : Fin 4) : (s.respond w).mirrorByte j = s.mirrorByte j := rfl
@[simp] theorem State.chanState_respond (w : CmdWord) (c : Channel) : (s.respond w).chanState c = s.chanState c := rfl
@[simp] theorem State.answerAt_storeDevice (dev : DevAddr) (reg : Byte) (v : Byte) (k : Nat) : (s.storeDevice dev reg v).answerAt k = s.answerAt k := rfl
@[simp] theorem State.mirrorByte_storeDevice (dev : DevAddr) (reg : Byte) (v : Byte) (j : Fin 4) : (s.storeDevice dev reg v).mirrorByte j = s.mirrorByte j := rfl
@[simp] theorem State.chanState_storeDevice (dev : DevAddr) (reg : Byte) (v : Byte) (c : Channel) : (s.storeDevice dev reg v).chanState c = s.chanState c := rfl
@[simp] theorem State.answerAt_lineResetDevice (k : Nat) : s.lineResetDevice.answerAt k = s.answerAt k := rfl
@[simp] theorem State.mirrorByte_lineResetDevice (j : Fin 4) : s.lineResetDevice.mirrorByte j = s.mirrorByte j := rfl
@[simp] theorem State.chanState_lineResetDevice (c : Channel) : s.lineResetDevice.chanState c = s.chanState c := rfl
@[simp] theorem State.answerAt_busResetDevices (k : Nat) : s.busResetDevices.answerAt k = s.answerAt k := rfl
@[simp] theorem State.mirrorByte_busResetDevices (j : Fin 4) : s.busResetDevices.mirrorByte j = s.mirrorByte j := rfl
@[simp] theorem State.chanState_busResetDevices (c : Channel) : s.busResetDevices.chanState c = s.chanState c := rfl
@[simp] theorem State.answerAt_blockReset (k : Nat) : s.blockReset.answerAt k = s.answerAt k := rfl
@[simp] theorem State.readDevice_blockReset (d : DevAddr) (q : Byte) : s.blockReset.readDevice d q = s.readDevice d q := rfl

end Views

end Sys2Proof.Machine
end

