-- ==== Sys2Proof/Laws/Ops.lean ====
section
/-! SUPPORT. One lemma per shared operation that says all it can do; the provers cite these. -/

namespace Sys2Proof.Machine

/-! ### Answers -/

theorem State.answerAt_of_eq {s t : State} (ha : t.answers = s.answers) (hi : t.issued = s.issued) (k : Nat) :
    t.answerAt k = s.answerAt k := by simp only [State.answerAt, ha, hi]

@[simp] theorem State.answerAt_takeAnswer (s : State) (k : Nat) : s.takeAnswer.answerAt k = s.answerAt (k + 1) := by
  simp [State.answerAt, State.takeAnswer, Nat.add_comm, Nat.add_left_comm]

/-! ### Transactions -/

@[simp] theorem transactions_nil : transactions [] = 0 := rfl

@[simp] theorem transactions_append (a b : List Event) : transactions (a ++ b) = transactions a + transactions b := by
  simp [transactions]

@[simp] theorem transactions_cons (e : Event) (t : List Event) :
    transactions (e :: t) = (if e.isTransaction then 1 else 0) + transactions t := by
  simp only [transactions, List.filter_cons]; split <;> simp [Nat.add_comm]

@[simp] theorem isTransaction_write (d : DevAddr) (r v : Byte) : (Event.write d r v).isTransaction = true := rfl
@[simp] theorem isTransaction_read (d : DevAddr) (r : Byte) : (Event.read d r).isTransaction = true := rfl
@[simp] theorem isTransaction_line (l : LineLevel) : (Event.line l).isTransaction = false := rfl
@[simp] theorem isTransaction_hold (n : Nat) : (Event.hold n).isTransaction = false := rfl

/-! ### The mirror -/

@[simp] theorem State.mirrorByte_setMirror (s : State) (i j : Fin 4) (v : Byte) :
    (s.setMirror i v).mirrorByte j = if i = j then v else s.mirrorByte j := by
  simp only [State.mirrorByte, State.setMirror_block_mirror, Fin.getElem_fin, Vector.getElem_set, Fin.ext_iff]

@[simp] theorem State.mirrorByte_clearMirror (s : State) (j : Fin 4) : s.clearMirror.mirrorByte j = 0x00#8 := by
  fin_cases j <;> rfl

/-! ### Flow -/

@[simp] theorem Flow.andThen_cont (s : State) (k : State → Flow) : (Flow.cont s).andThen k = k s := rfl
@[simp] theorem Flow.andThen_ended (s : State) (k : State → Flow) : (Flow.ended s).andThen k = .ended s := rfl
@[simp] theorem Flow.state_cont (s : State) : (Flow.cont s).state = s := rfl
@[simp] theorem Flow.state_ended (s : State) : (Flow.ended s).state = s := rfl
@[simp] theorem returnOk_eq (k : BitVec 6) (r : Mask16) (s : State) : returnOk k r s = .cont (s.respond (okWord k r)) := rfl
@[simp] theorem takeException_eq (e : Exception) (s : State) : takeException e s = s.respond (exceptionWord e) := rfl

/-- A command answers a next state, whatever its body does. -/
theorem command_eq (body : State → Flow) (s : State) : command body s = .next (body s.beginCommand).state := rfl

/-! ### The write primitive -/

/-- The state after a write was issued and answered, before its effect on the devices. -/
def issueWrite (dev : DevAddr) (reg v : Byte) (s : State) : State := (s.emit (.write dev reg v)).takeAnswer

/-- A write that succeeds: it reaches the devices and the command goes on. -/
theorem busWrite_done (dev : DevAddr) (reg v : Byte) (reach : State → State) (s : State)
    (h : (s.answerAt 0).succeeded = true) :
    busWrite dev reg v reach s = .cont (reach (issueWrite dev reg v s)) := by
  unfold busWrite issueWrite
  cases ha : s.answerAt 0 with
  | done b => rfl
  | fail r => simp [ha, Answer.succeeded] at h

/-- A write that fails: the command ends with the number of the write, which reached the devices or not. -/
theorem busWrite_fail (dev : DevAddr) (reg v : Byte) (reach : State → State) (s : State) (r : Bool)
    (h : s.answerAt 0 = .fail r) :
    busWrite dev reg v reach s =
      .ended ((if r then reach (issueWrite dev reg v s) else issueWrite dev reg v s).respond
        (transportErrorWord (transactions s.trace))) := by
  unfold busWrite issueWrite
  rw [h]; cases r <;> rfl

/-- All a write can do. -/
theorem busWrite_cases (dev : DevAddr) (reg v : Byte) (reach : State → State) (s : State) :
    ((s.answerAt 0).succeeded = true ∧ busWrite dev reg v reach s = .cont (reach (issueWrite dev reg v s))) ∨
    ∃ r, s.answerAt 0 = .fail r ∧ busWrite dev reg v reach s =
      .ended ((if r then reach (issueWrite dev reg v s) else issueWrite dev reg v s).respond
        (transportErrorWord (transactions s.trace))) := by
  cases ha : s.answerAt 0 with
  | done b => exact .inl ⟨rfl, busWrite_done _ _ _ _ _ (by rw [ha]; rfl)⟩
  | fail r => exact .inr ⟨r, rfl, busWrite_fail _ _ _ _ _ _ ha⟩

/-! ### The read primitive -/

/-- What a read returns: a byte exactly when the transaction succeeds. -/
theorem readAnswer_isSome (s : State) : (readAnswer s).isSome = (s.answerAt 0).succeeded := by
  unfold readAnswer; cases s.answerAt 0 <;> rfl

/-! ### The command a step takes -/

/-- All a step can do. -/
theorem step_cases (s : State) :
    (s.inputs = [] ∧ step s = .next s) ∨
    (∃ rest, s.inputs = .blockReset :: rest ∧ step s = .next { s with inputs := rest }.blockReset) ∨
    (∃ w rest i, s.inputs = .command w :: rest ∧ decode w = .ok i ∧ step s = exec i { s with inputs := rest }) ∨
    (∃ w rest e, s.inputs = .command w :: rest ∧ decode w = .error e ∧
      step s = .next (refuseCommand { s with inputs := rest })) := by
  unfold step
  split
  · rename_i h; exact .inl ⟨h, rfl⟩
  · rename_i rest h; exact .inr (.inl ⟨rest, h, rfl⟩)
  · rename_i w rest h
    cases hd : decode w with
    | ok i => exact .inr (.inr (.inl ⟨w, rest, i, h, hd, rfl⟩))
    | error e => exact .inr (.inr (.inr ⟨w, rest, e, h, hd, rfl⟩))

/-- The register file after reset is in its canonical form. -/
theorem reset_device_wf : Memory.wf State.reset.device = true := rfl

end Sys2Proof.Machine
end

