-- ==== Sys2Proof/Laws/PerInstr.lean ====
section
/-! SUPPORT. A law of every instruction, one lemma each: its command word selects a row of 30_encoding.md R83. -/

namespace Sys2Proof

/-- The command word of the instruction is legal: it selects a row of the opcode map (R83, R87). -/
def Laws.EncodesLegal.Statement (i : Instr) : Prop := legalWord (encode i) = true

/-- A word selects the row of the four fields `m` under the four field masks `k` if each field does. -/
theorem selects_cmdWord (n : String) (op mop kop : BitVec 4) (ch mch kch : Channel) (a ma ka b mb kb : Byte)
    (h : op &&& kop = mop ∧ ch &&& kch = mch ∧ a &&& ka = ma ∧ b &&& kb = mb) :
    OpcodeRow.selects ⟨n, cmdWord mop mch ma mb, cmdWord kop kch ka kb⟩ (cmdWord op ch a b) = true := by
  obtain ⟨rfl, rfl, rfl, rfl⟩ := h
  simp only [OpcodeRow.selects, cmdWord_and, beq_self_eq_true]

theorem legal_of_selects {w : CmdWord} (r : OpcodeRow) (h : r ∈ opcodeRows) (hs : r.selects w = true) :
    legalWord w = true := List.any_eq_true.mpr ⟨r, h, hs⟩

theorem legal_setstate (c : Channel) (a : Byte) (h : a &&& 0xFC#8 = 0#8) : legalWord (cmdWord 0x2#4 c a 0#8) = true :=
  legal_of_selects ⟨"SETSTATE", cmdWord 0x2#4 0#4 0#8 0#8, cmdWord 0xF#4 0x0#4 0xFC#8 0xFF#8⟩ (by decide)
    (selects_cmdWord _ _ _ _ _ _ _ _ _ _ _ _ _ ⟨by decide, by simp, h, by decide⟩)

theorem Laws.EncodesLegal.enable : Laws.EncodesLegal.Statement .enable := by
  unfold Laws.EncodesLegal.Statement; decide

theorem Laws.EncodesLegal.reset : Laws.EncodesLegal.Statement .reset := by
  unfold Laws.EncodesLegal.Statement; decide

theorem Laws.EncodesLegal.setstate (c : Channel) (st : ChanState) : Laws.EncodesLegal.Statement (.setstate c st) :=
  legal_setstate c _ (by cases st <;> decide)

theorem Laws.EncodesLegal.setduty (c : Channel) (d : Byte) : Laws.EncodesLegal.Statement (.setduty c d) :=
  legal_of_selects ⟨"SETDUTY", cmdWord 0x3#4 0#4 0#8 0#8, cmdWord 0xF#4 0x0#4 0x00#8 0xFF#8⟩ (by decide)
    (selects_cmdWord _ _ _ _ _ _ _ _ _ _ _ _ _ ⟨by decide, by simp, by simp, by decide⟩)

theorem Laws.EncodesLegal.assigngrp (c : Channel) : Laws.EncodesLegal.Statement (.assigngrp c) :=
  legal_of_selects ⟨"ASSIGNGRP", cmdWord 0x4#4 0#4 0#8 0#8, cmdWord 0xF#4 0x0#4 0xFF#8 0xFF#8⟩ (by decide)
    (selects_cmdWord _ _ _ _ _ _ _ _ _ _ _ _ _ ⟨by decide, by simp, by decide, by decide⟩)

theorem Laws.EncodesLegal.grpduty (d : Byte) : Laws.EncodesLegal.Statement (.grpduty d) :=
  legal_of_selects ⟨"GRPDUTY", cmdWord 0x5#4 0#4 0#8 0#8, cmdWord 0xF#4 0xF#4 0x00#8 0xFF#8⟩ (by decide)
    (selects_cmdWord _ _ _ _ _ _ _ _ _ _ _ _ _ ⟨by decide, by decide, by simp, by decide⟩)

theorem Laws.EncodesLegal.grpblink (f d : Byte) : Laws.EncodesLegal.Statement (.grpblink f d) :=
  legal_of_selects ⟨"GRPBLINK", cmdWord 0x6#4 0#4 0#8 0#8, cmdWord 0xF#4 0xF#4 0x00#8 0x00#8⟩ (by decide)
    (selects_cmdWord _ _ _ _ _ _ _ _ _ _ _ _ _ ⟨by decide, by decide, by simp, by simp⟩)

theorem Laws.EncodesLegal.chkerr : Laws.EncodesLegal.Statement .chkerr := by
  unfold Laws.EncodesLegal.Statement; decide

theorem Laws.EncodesLegal.descerr : Laws.EncodesLegal.Statement .descerr := by
  unfold Laws.EncodesLegal.Statement; decide

theorem Laws.EncodesLegal.clrerr : Laws.EncodesLegal.Statement .clrerr := by
  unfold Laws.EncodesLegal.Statement; decide

theorem Laws.EncodesLegal.busreset : Laws.EncodesLegal.Statement .busreset := by
  unfold Laws.EncodesLegal.Statement; decide

theorem Laws.EncodesLegal.turnoff (c : Channel) : Laws.EncodesLegal.Statement (.turnoff c) :=
  legal_setstate c _ (by decide)

theorem Laws.EncodesLegal.turnon (c : Channel) : Laws.EncodesLegal.Statement (.turnon c) :=
  legal_setstate c _ (by decide)

theorem Laws.EncodesLegal.setpwm (c : Channel) : Laws.EncodesLegal.Statement (.setpwm c) :=
  legal_setstate c _ (by decide)

end Sys2Proof
end

