-- ==== Sys2Proof/Laws/Shared.lean ====
section
/-! SUPPORT. What the shared steps of the commands can do, the laws of the bit-packing, of the mode byte, of the
response words and of what a trace stores. -/

namespace Sys2Proof.Machine

/-! ### Answers -/

theorem Answer.exists_done {a : Answer} (h : a.succeeded = true) : ∃ b, a = .done b := by
  cases a <;> simp_all [Answer.succeeded]

theorem Answer.exists_fail {a : Answer} (h : a.succeeded = false) : ∃ r, a = .fail r := by
  cases a <;> simp_all [Answer.succeeded]

theorem State.succeeds.done {s : State} {n : Nat} (h : s.succeeds n) (k : Nat) (hk : k < n) :
    ∃ b, s.answerAt k = .done b := Answer.exists_done (h k hk)

/-! ### The write to the block's own device, and the steps made of it -/

/-- The state after the device took the write. -/
def wrote (reg v : Byte) (s : State) : State :=
  (issueWrite s.params.devAddr reg v s).storeDevice s.params.devAddr reg v

/-- All a write to the own device can do. -/
theorem memWrite_cases (reg v : Byte) (s : State) :
    ((s.answerAt 0).succeeded = true ∧ memWrite reg v s = .cont (wrote reg v s)) ∨
    ∃ r, s.answerAt 0 = .fail r ∧ memWrite reg v s =
      .ended ((if r then wrote reg v s else issueWrite s.params.devAddr reg v s).respond
        (transportErrorWord (transactions s.trace))) :=
  busWrite_cases s.params.devAddr reg v (fun t => t.storeDevice t.params.devAddr reg v) s

/-- The write of MODE_REG is a write of the mode byte. -/
theorem writeMode_eq (clr : Bool) (s : State) :
    writeMode clr s = memWrite modeReg (modeByte clr s.block.groupMode) s := rfl

/-- The enable step is one write. -/
theorem doEnable_eq (s : State) : doEnable s = memWrite enableReg enableByte s := rfl

/-- Switching to the mode that is cached does nothing. -/
theorem switchMode_same {g : GroupMode} {s : State} (h : s.block.groupMode = g) : switchMode g s = .cont s :=
  if_pos h

/-- Switching to the other mode updates the cache and writes MODE_REG. -/
theorem switchMode_other {g : GroupMode} {s : State} (h : s.block.groupMode ≠ g) :
    switchMode g s = memWrite modeReg (modeByte false g) (s.setGroupMode g) := if_neg h

/-- Setting a channel updates the mirror and writes the new byte. -/
theorem setChannel_eq (c : Channel) (st : ChanState) (s : State) :
    setChannel c st s = memWrite (ledoutReg (regIndex c)) (insertField (s.mirrorByte (regIndex c)) c st)
      (s.setMirror (regIndex c) (insertField (s.mirrorByte (regIndex c)) c st)) := rfl

@[simp] theorem offAll_nil (s : State) : offAll [] s = .cont s := rfl

theorem offAll_cons (c : Channel) (cs : List Channel) (s : State) :
    offAll (c :: cs) s = (setChannel c .off s).andThen (offAll cs) := rfl

@[simp] theorem issueWrite_block (d : DevAddr) (reg v : Byte) (s : State) : (issueWrite d reg v s).block = s.block := rfl
@[simp] theorem issueWrite_params (d : DevAddr) (reg v : Byte) (s : State) : (issueWrite d reg v s).params = s.params := rfl
@[simp] theorem issueWrite_trace (d : DevAddr) (reg v : Byte) (s : State) :
    (issueWrite d reg v s).trace = s.trace ++ [.write d reg v] := rfl
@[simp] theorem issueWrite_answerAt (d : DevAddr) (reg v : Byte) (s : State) (k : Nat) :
    (issueWrite d reg v s).answerAt k = s.answerAt (k + 1) := by simp [issueWrite]
@[simp] theorem issueWrite_readDevice (d e : DevAddr) (reg v q : Byte) (s : State) :
    (issueWrite d reg v s).readDevice e q = s.readDevice e q := rfl

/-- The reset hold is an event and nothing else. -/
theorem delay_eq (s : State) : delay s = s.emit (.hold s.params.tResetMin) := rfl

/-- Releasing the line is a level and an event. -/
theorem lineSet_active (s : State) : lineSet .active s = (s.setLine .active).emit (.line .active) := rfl

/-- Driving the line inactive is a level, an event and the device's reset. -/
theorem lineSet_inactive (s : State) :
    lineSet .inactive s = ((s.setLine .inactive).emit (.line .inactive)).lineResetDevice := rfl

/-- An illegal command is its response and an empty trace. -/
theorem refuseCommand_eq (s : State) : refuseCommand s = { s with trace := [], response := some 0x800000#24 } := rfl

/-! ### Bit-packing -/

/-- Putting a state into a byte and decoding a channel of that byte (R22, R23, R89). -/
theorem extractField_insertField (b : Byte) (c d : Channel) (st : ChanState) (h : regIndex c = regIndex d) :
    extractField (insertField b c st) d = if d = c then chanStateCode st else extractField b d := by
  have h1 : c.toNat / 4 = d.toNat / 4 := by simpa [regIndex] using h
  have hiff : (d = c) ↔ d.toNat % 4 = c.toNat % 4 := by
    constructor
    · rintro rfl; rfl
    · intro h; apply BitVec.eq_of_toNat_eq; omega
  simp only [extractField, insertField, fieldMask, bitOffset, hiff]
  generalize chanStateCode st = v
  have a1 : c.toNat % 4 < 4 := by omega
  have a2 : d.toNat % 4 < 4 := by omega
  generalize c.toNat % 4 = x at *
  generalize d.toNat % 4 = y at *
  clear hiff h1 h
  revert b v
  interval_cases x <;> interval_cases y <;> decide +kernel

/-- Every channel's state after one channel's field was set in the mirror. -/
theorem State.chanState_setMirror (s : State) (c d : Channel) (st : ChanState) :
    (s.setMirror (regIndex c) (insertField (s.mirrorByte (regIndex c)) c st)).chanState d =
      if d = c then chanStateCode st else s.chanState d := by
  simp only [State.chanState, State.mirrorByte_setMirror]
  by_cases h : regIndex c = regIndex d
  · rw [if_pos h, extractField_insertField _ _ _ _ h, h]
  · rw [if_neg h, if_neg]; rintro rfl; exact h rfl

/-! ### Flags and response words -/

theorem modeByte_true (g : GroupMode) : modeByte true g = if g = .blink then 0xA0#8 else 0x80#8 := by cases g <;> rfl
theorem modeByte_false (g : GroupMode) : modeByte false g = if g = .blink then 0x20#8 else 0x00#8 := by cases g <;> rfl
theorem okWord_zero : okWord 0#6 0#16 = 0x000000#24 := by decide
theorem transportErrorWord_zero : transportErrorWord 0 = 0x400000#24 := by decide
theorem transportErrorWord_one : transportErrorWord 1 = 0x410000#24 := by decide
theorem transportErrorWord_two : transportErrorWord 2 = 0x420000#24 := by decide

/-! ### What a trace stores -/

@[simp] theorem storedValue_nil (d : DevAddr) (r : Byte) : storedValue [] d r = none := rfl

theorem storedValue_snoc (es : List Event) (e : Event) (d : DevAddr) (r : Byte) :
    storedValue (es ++ [e]) d r = (eventStores d r e).or (storedValue es d r) := by
  simp [storedValue, List.findSome?_cons]; cases eventStores d r e <;> rfl

@[simp] theorem eventStores_write (d e : DevAddr) (r q v : Byte) :
    eventStores d r (.write e q v) = if e = d ∧ q = r then some v else none := rfl

@[simp] theorem clearsFlags_write (d e : DevAddr) (q v : Byte) :
    clearsFlags d (.write e q v) = (e == d && clearsLatch q v) := rfl

/-- The device register space after one more write, if it followed the trace before it. -/
theorem DeviceFollows.wrote {s0 s : State} {es : List Event} (h : DeviceFollows s0 s es) (reg v : Byte) :
    DeviceFollows s0 (wrote reg v s) (es ++ [.write s.params.devAddr reg v]) := by
  intro d r hf
  simp only [List.any_append, List.any_cons, List.any_nil, clearsFlags_write, Bool.or_false, Bool.or_eq_false_iff,
    Bool.and_eq_false_iff, beq_eq_false_iff_ne] at hf
  rw [storedValue_snoc, eventStores_write]
  simp only [Machine.wrote, State.readDevice_storeDevice, issueWrite_readDevice]
  split
  · rfl
  · split
    · rename_i _ hc
      rcases (hf hc.2.2).2 with hn | hn
      · exact absurd hc.2.1 hn
      · rw [hc.1] at hn; cases hn
    · exact h d r (fun hr => (hf hr).1)

/-! ### The ideal device -/

/-- What transaction `k` of a command is answered. -/
theorem IdealDevice.answers_getElem? (d : IdealDevice) (failing : List Nat) {k : Nat} (hk : k < 17) :
    (d.answers failing)[k]? = some (if failing.contains k then .fail false
      else if k = 0 then .done d.eflagLo else if k = 1 then .done d.eflagHi else .done 0x00#8) := by
  simp [IdealDevice.answers, hk]

/-- The device after one more event. -/
theorem IdealDevice.after_snoc (d : IdealDevice) (own : DevAddr) (failing : List Nat) (n : Nat) (es : List Event)
    (e : Event) : d.after own failing n (es ++ [e]) =
      if e.isTransaction && failing.contains (n + transactions es) then d.after own failing n es
      else (d.after own failing n es).take own e := by
  induction es generalizing d n with
  | nil => simp [IdealDevice.after, transactions]
  | cons a es ih =>
    have h : (if a.isTransaction = true then n + 1 else n) + transactions es = n + transactions (a :: es) := by
      simp only [transactions, List.filter_cons]
      split <;> (simp; try omega)
    simp only [List.cons_append, IdealDevice.after, ih, h]

/-- What the device holds after the line was driven inactive. -/
theorem IdealDevice.read_lineReset (d : IdealDevice) (own : DevAddr) {r : Byte} (h : r.toNat ≤ 0x17) :
    (d.lineReset own).read r = some (defaultByte own r) := by
  have a : r ≠ eflagLoReg := by rintro rfl; exact absurd h (by decide)
  have b : r ≠ eflagHiReg := by rintro rfl; exact absurd h (by decide)
  simp [IdealDevice.read, a, b, IdealDevice.lineReset, Vector.getElem?_eq_getElem (show r.toNat < 24 by omega)]

end Sys2Proof.Machine
end

