-- ==== Sys2Proof/Tests/Slice0.lean ====
section
/-! SUPPORT. Tests by the vectors of 95_test_vectors.md (named in each comment), and one witness for the hypotheses of
every statement that has some. -/

namespace Sys2Proof.Tests

open Sys2Proof.Machine

/-! ### Helpers -/

/-- A block with mirror `m` and mode `g`, with a reset line or without, before the answers `as`. -/
def mk (line : Bool) (m : Vector Byte 4) (g : GroupMode) (as : List Answer) : State :=
  { State.construct { Config.atReset with hasResetLine := line } with
    block := { Block.afterReset with mirror := m, groupMode := g }, answers := as }

/-- The all-zero mirror. -/
def zero : Vector Byte 4 := #v[0x00#8, 0x00#8, 0x00#8, 0x00#8]

/-- `n` successful answers. -/
def oks (n : Nat) : List Answer := List.replicate n (.done 0x00#8)

/-- No reset line, mirror zero. -/
def plain (g : GroupMode) (as : List Answer) : State := mk false zero g as

/-- What an outcome shows: trace, response, mirror, mode. -/
def seen : Host.Outcome State Fault Refusal → Option (List Event × Option CmdWord × Vector Byte 4 × GroupMode)
  | .next t => some (t.trace, t.response, t.block.mirror, t.block.groupMode)
  | .fault _ => none
  | .refused _ => none

/-- The error fields and the response an outcome shows. -/
def errors : Host.Outcome State Fault Refusal → Option (List Event × Option CmdWord × ErrStatus × Mask16)
  | .next t => some (t.trace, t.response, t.block.errStatus, t.block.errMask)
  | .fault _ => none
  | .refused _ => none

/-- What the own device holds in a register afterwards. -/
def held (reg : Byte) : Host.Outcome State Fault Refusal → Option Byte
  | .next t => some (t.readDevice t.params.devAddr reg)
  | .fault _ => none
  | .refused _ => none

/-- An ideal device with registers zero and the given error flags. -/
def flags (lo hi : Byte) : IdealDevice := { regs := Vector.replicate 24 0x00#8, eflagLo := lo, eflagHi := hi }

/-- A write to device `0x60`. -/
def w (reg val : Byte) : Event := .write 0x60#7 reg val

/-- A read of device `0x60`. -/
def r (reg : Byte) : Event := .read 0x60#7 reg

/-! ### WellFormed: each check refuses -/

/-- IL1 to IL16 of 95 section 2.1. -/
theorem test_illegal_words : ([0xB00000#24, 0xF00000#24, 0xFFFFFF#24, 0x010000#24, 0x000001#24, 0x100100#24,
    0x200400#24, 0x2000FF#24, 0x300001#24, 0x400100#24, 0x510000#24, 0x610000#24, 0x700001#24, 0xA00000#24,
    0xA05AA5#24, 0xA1A55A#24].any fun x => legalWord x) = false := by decide

/-- R7: the broadcast address is no device address, the reset hold is positive. -/
theorem test_illegal_parameters : Params.legal { Config.atReset with devAddr := 0x6B#7 } = false ∧
    Params.legal { Config.atReset with tResetMin := 0 } = false ∧ Params.legal Config.atReset = true := by decide

/-! ### Decoding: EN1 to EN16 of 95 section 2.1, and the illegal words by name -/

theorem test_decode_enable_reset : decode 0x000000#24 = .ok .enable ∧ decode 0x100000#24 = .ok .reset ∧
    decode 0xA0A55A#24 = .ok .busreset := by decide

theorem test_decode_setstate : decode 0x200000#24 = .ok (.setstate 0#4 .off) ∧
    decode 0x2F0300#24 = .ok (.setstate 15#4 .group) ∧ decode 0x250200#24 = .ok (.setstate 5#4 .pwm) := by decide

theorem test_decode_pseudo : decode 0x260000#24 = .ok (.setstate 6#4 .off) ∧
    decode 0x260100#24 = .ok (.setstate 6#4 .on) ∧ decode 0x260200#24 = .ok (.setstate 6#4 .pwm) := by decide

theorem test_decode_duties : decode 0x300000#24 = .ok (.setduty 0#4 0x00#8) ∧
    decode 0x3FFF00#24 = .ok (.setduty 15#4 0xFF#8) ∧ decode 0x508000#24 = .ok (.grpduty 0x80#8) ∧
    decode 0x601780#24 = .ok (.grpblink 0x17#8 0x80#8) ∧ decode 0x490000#24 = .ok (.assigngrp 9#4) := by decide

theorem test_decode_errors : decode 0x700000#24 = .ok .chkerr ∧ decode 0x800000#24 = .ok .descerr ∧
    decode 0x900000#24 = .ok .clrerr := by decide

theorem test_decode_illegal : decode 0xF00000#24 = .error .reservedOpcode ∧ decode 0x010000#24 = .error .chNotZero ∧
    decode 0x100100#24 = .error .aNotZero ∧ decode 0x300001#24 = .error .bNotZero ∧
    decode 0x200400#24 = .error .stateHighNotZero ∧ decode 0xA05AA5#24 = .error .badKey := by decide

theorem test_encode : encode (.turnoff 3#4) = 0x230000#24 ∧ encode (.turnon 0#4) = 0x200100#24 ∧
    encode (.setpwm 15#4) = 0x2F0200#24 ∧ encode (.grpblink 0x17#8 0x80#8) = 0x601780#24 ∧
    encode .busreset = 0xA0A55A#24 := by decide

theorem test_decode_table_word : decodeTableWord 24 0x250200 = some (.setstate 5#4 .pwm) ∧
    decodeTableWord 24 0xA00000 = none := by decide

/-- E10: DESCERR as the first command after reset. -/
theorem test_fetch_after_reset :
    errors (step (State.reset.withFetchWord 24 0x800000)) = some ([], some 0x000000#24, .unknown, 0x0000#16) := by decide

/-! ### The assembler -/

theorem test_assembles : asmLine [' ', 'S', 'E', 'T', 'D', 'U', 'T', 'Y', ' ', '1', '5', ',', ' ', '2', '5', '5', ';', '!'] =
    .command (.setduty 15#4 0xFF#8) := by decide

theorem test_refuses_channel_16 : asmLine ['T', 'U', 'R', 'N', 'O', 'N', ' ', '1', '6'] = .malformed := by decide

/-! ### The commands -/

/-- R110's example. -/
theorem test_setstate : seen (step ((plain .pwmDutyOnly []).present 0x250200#24 (oks 1))) =
    some ([w 0x15#8 0x08#8], some 0x000000#24, #v[0x00#8, 0x08#8, 0x00#8, 0x00#8], .pwmDutyOnly) := by decide

/-- Table 2.3, channel 3 to Off. -/
theorem test_setstate_isolates : seen (exec (.setstate 3#4 .off)
    (mk false #v[0xE4#8, 0xE4#8, 0xE4#8, 0xE4#8] .blink (oks 1))) =
    some ([w 0x14#8 0x24#8], some 0x000000#24, #v[0x24#8, 0xE4#8, 0xE4#8, 0xE4#8], .blink) := by decide

/-- CS-fail. -/
theorem test_turnoff_fails : seen (exec (.turnoff 10#4)
    (mk false #v[0xFF#8, 0xFF#8, 0xFF#8, 0xFF#8] .pwmDutyOnly [.fail false])) =
    some ([w 0x16#8 0xCF#8], some 0x400000#24, #v[0xFF#8, 0xFF#8, 0xCF#8, 0xFF#8], .pwmDutyOnly) := by decide

/-- R112's example. -/
theorem test_turnon : seen (exec (.turnon 0#4) (plain .pwmDutyOnly (oks 1))) =
    some ([w 0x14#8 0x01#8], some 0x000000#24, #v[0x01#8, 0x00#8, 0x00#8, 0x00#8], .pwmDutyOnly) := by decide

/-- R113's example. -/
theorem test_setpwm : seen (exec (.setpwm 15#4) (plain .pwmDutyOnly (oks 1))) =
    some ([w 0x17#8 0x80#8], some 0x000000#24, #v[0x00#8, 0x00#8, 0x00#8, 0x80#8], .pwmDutyOnly) := by decide

/-- R114's example. -/
theorem test_assigngrp : seen (exec (.assigngrp 9#4) (plain .pwmDutyOnly (oks 2))) =
    some ([w 0x0B#8 0xFF#8, w 0x16#8 0x0C#8], some 0x000000#24, #v[0x00#8, 0x00#8, 0x0C#8, 0x00#8],
      .pwmDutyOnly) := by decide

/-- AG-b and AG-c. -/
theorem test_assigngrp_fails :
    seen (exec (.assigngrp 5#4) (plain .pwmDutyOnly [.fail false])) =
      some ([w 0x07#8 0xFF#8], some 0x400000#24, zero, .pwmDutyOnly) ∧
    seen (exec (.assigngrp 5#4) (plain .pwmDutyOnly [.done 0x00#8, .fail true])) =
      some ([w 0x07#8 0xFF#8, w 0x15#8 0x0C#8], some 0x410000#24, #v[0x00#8, 0x0C#8, 0x00#8, 0x00#8],
        .pwmDutyOnly) := by decide

/-- D3, and what the device holds. -/
theorem test_setduty : seen (exec (.setduty 7#4 0x40#8) (plain .blink (oks 1))) =
    some ([w 0x09#8 0x40#8], some 0x000000#24, zero, .blink) ∧
    held 0x09#8 (exec (.setduty 7#4 0x40#8) (plain .blink (oks 1))) = some 0x40#8 := by decide

/-- D4, both outcomes of R53. -/
theorem test_setduty_fails : seen (exec (.setduty 7#4 0x40#8) (plain .pwmDutyOnly [.fail false])) =
    some ([w 0x09#8 0x40#8], some 0x400000#24, zero, .pwmDutyOnly) ∧
    held 0x09#8 (exec (.setduty 7#4 0x40#8) ((plain .pwmDutyOnly [.fail false]).storeDevice 0x60#7 0x09#8 0x11#8)) =
      some 0x11#8 ∧
    held 0x09#8 (exec (.setduty 7#4 0x40#8) (plain .pwmDutyOnly [.fail true])) = some 0x40#8 := by decide

/-- G1 and G2. -/
theorem test_grpduty : seen (exec (.grpduty 0x80#8) (plain .pwmDutyOnly (oks 1))) =
    some ([w 0x12#8 0x80#8], some 0x000000#24, zero, .pwmDutyOnly) ∧
    seen (exec (.grpduty 0x80#8) (plain .blink (oks 2))) =
    some ([w 0x01#8 0x00#8, w 0x12#8 0x80#8], some 0x000000#24, zero, .pwmDutyOnly) := by decide

/-- G7 and G8. -/
theorem test_grpduty_fails : seen (exec (.grpduty 0x80#8) (plain .blink [.fail false])) =
    some ([w 0x01#8 0x00#8], some 0x400000#24, zero, .pwmDutyOnly) ∧
    seen (exec (.grpduty 0x80#8) (plain .blink [.done 0x00#8, .fail false])) =
    some ([w 0x01#8 0x00#8, w 0x12#8 0x80#8], some 0x410000#24, zero, .pwmDutyOnly) := by decide

/-- G3 and G4. -/
theorem test_grpblink : seen (exec (.grpblink 0x17#8 0x80#8) (plain .pwmDutyOnly (oks 3))) =
    some ([w 0x12#8 0x80#8, w 0x01#8 0x20#8, w 0x13#8 0x17#8], some 0x000000#24, zero, .blink) ∧
    seen (exec (.grpblink 0x17#8 0x80#8) (plain .blink (oks 2))) =
    some ([w 0x12#8 0x80#8, w 0x13#8 0x17#8], some 0x000000#24, zero, .blink) := by decide

/-- G9 and G11. -/
theorem test_grpblink_fails : seen (exec (.grpblink 0x17#8 0x80#8) (plain .pwmDutyOnly [.fail false])) =
    some ([w 0x12#8 0x80#8], some 0x400000#24, zero, .pwmDutyOnly) ∧
    seen (exec (.grpblink 0x17#8 0x80#8) (plain .pwmDutyOnly (oks 2 ++ [.fail false]))) =
    some ([w 0x12#8 0x80#8, w 0x01#8 0x20#8, w 0x13#8 0x17#8], some 0x420000#24, zero, .blink) := by decide

/-- E2 and E6. -/
theorem test_chkerr : errors (exec .chkerr (plain .pwmDutyOnly ((flags 0xF7#8 0xFD#8).answers []))) =
    some ([r 0x1D#8, r 0x1E#8], some 0x000001#24, .faulted, 0xFDF7#16) ∧
    errors (exec .chkerr (plain .pwmDutyOnly [.done 0x01#8, .done 0xFF#8])) =
    some ([r 0x1D#8, r 0x1E#8], some 0x000001#24, .faulted, 0xFF01#16) := by decide

/-- E1 and E4. -/
theorem test_chkerr_other : errors (exec .chkerr (plain .pwmDutyOnly [.done 0xFF#8, .done 0xFF#8])) =
    some ([r 0x1D#8, r 0x1E#8], some 0x000000#24, .clean, 0xFFFF#16) ∧
    errors (exec .chkerr (plain .pwmDutyOnly [.fail false, .done 0xFF#8])) =
    some ([r 0x1D#8, r 0x1E#8], some 0x000001#24, .commFailure, 0xFF01#16) := by decide

/-- A state after an error check. -/
def checked (st : ErrStatus) (m : Mask16) : State := (plain .pwmDutyOnly []).setErr (st, m)

/-- E2, DESCERR: channels 3 and 9. -/
theorem test_descerr : errors (exec .descerr (checked .faulted 0xFDF7#16)) =
    some ([], some 0x020208#24, .faulted, 0xFDF7#16) := by decide

/-- E1 and E3, DESCERR. -/
theorem test_descerr_other : errors (exec .descerr (checked .clean 0xFFFF#16)) =
      some ([], some 0x010000#24, .clean, 0xFFFF#16) ∧
    errors (exec .descerr (checked .commFailure 0xFF01#16)) =
      some ([], some 0x030000#24, .commFailure, 0xFF01#16) := by decide

/-- C1 and C2. -/
theorem test_clrerr : seen (exec .clrerr (plain .pwmDutyOnly (oks 2))) =
    some ([w 0x01#8 0x80#8, w 0x01#8 0x00#8], some 0x000000#24, zero, .pwmDutyOnly) ∧
    seen (exec .clrerr (plain .blink (oks 2))) =
    some ([w 0x01#8 0xA0#8, w 0x01#8 0x20#8], some 0x000000#24, zero, .blink) := by decide

/-- C3, and the latch cleared by C2 (R66). -/
theorem test_clrerr_fails : seen (exec .clrerr (plain .blink [.fail false])) =
    some ([w 0x01#8 0xA0#8], some 0x400000#24, zero, .blink) ∧
    held 0x1D#8 (exec .clrerr ((plain .blink (oks 2)).storeDevice 0x60#7 0x1D#8 0xF7#8)) =
      some (Config.clearedFlags 1 (loc 0x60#7 0x1D#8)) := ⟨by decide, rfl⟩

/-- X1. -/
theorem test_enable : seen (exec .enable (mk false #v[0x01#8, 0x02#8, 0x03#8, 0x04#8] .pwmDutyOnly (oks 1))) =
    some ([w 0x00#8 0x80#8], some 0x000000#24, #v[0x01#8, 0x02#8, 0x03#8, 0x04#8], .pwmDutyOnly) := by decide

/-- X2. -/
theorem test_reset_by_line : seen (exec .reset (mk true #v[0x55#8, 0xAA#8, 0xFF#8, 0x03#8] .blink (oks 1))) =
    some ([.line .inactive, .hold 1, .line .active, w 0x00#8 0x80#8], some 0x000000#24, zero, .pwmDutyOnly) := by decide

/-- X5. -/
theorem test_reset_by_writes_fails : seen (exec .reset
    (mk false #v[0xFF#8, 0xFF#8, 0xFF#8, 0xFF#8] .pwmDutyOnly ((flags 0xFF#8 0xFF#8).answers [5]))) =
    some ([w 0x14#8 0xFC#8, w 0x14#8 0xF0#8, w 0x14#8 0xC0#8, w 0x14#8 0x00#8, w 0x15#8 0xFC#8, w 0x15#8 0xF0#8],
      some 0x450000#24, #v[0x00#8, 0xF0#8, 0xFF#8, 0xFF#8], .pwmDutyOnly) := by decide

/-- X8. -/
theorem test_busreset : seen (exec .busreset (mk false #v[0xFF#8, 0xFF#8, 0xFF#8, 0xFF#8] .blink (oks 1))) =
    some ([.write 0x6B#7 0xA5#8 0x5A#8], some 0x000000#24, #v[0xFF#8, 0xFF#8, 0xFF#8, 0xFF#8], .blink) := by decide

/-- P4 command 2: the failed write does not reach the ideal device. -/
theorem test_ideal_failed_write :
    let s := mk false #v[0x00#8, 0x02#8, 0x00#8, 0x00#8] .pwmDutyOnly []
    let t := idealRun s ((flags 0xFF#8 0xFF#8).set 0x15#8 0x02#8) [0] 0x250100#24
    t.2.read 0x15#8 = some 0x02#8 ∧ t.1.mirrorByte 1 = 0x06#8 ∧ t.1.response = some 0x400000#24 := by decide

/-- P2 command 4 and P3: the pulse ends with `dev[01] = 20` and leaves the flags as the test's input. -/
theorem test_ideal_clrerr : let d := (idealRun (plain .blink []) (flags 0xF7#8 0xFD#8) [] 0x900000#24).2
    d.read 0x01#8 = some 0x20#8 ∧ d.read 0x1D#8 = some 0xF7#8 ∧ d.read 0x1E#8 = some 0xFD#8 := by decide

/-- R73: the broadcast changes nothing in the fixture. -/
theorem test_ideal_busreset : (idealRun (plain .blink []) (flags 0xF7#8 0xFD#8) [] 0xA0A55A#24).2 =
    flags 0xF7#8 0xFD#8 := by decide

/-- P1 command 2: `dev[00] = 80` after RESET by the line, LEDOUT zero. -/
theorem test_ideal_reset : let d := (idealRun (mk true zero .blink []) ((flags 0xFF#8 0xFF#8).set 0x14#8 0x39#8) []
      0x100000#24).2
    d.read 0x00#8 = some 0x80#8 ∧ d.read 0x14#8 = some 0x00#8 := by decide

/-- IL14 as a command. -/
theorem test_illegal_command : seen (step ((plain .blink []).present 0xA00000#24 (oks 1))) =
    some ([], some 0x800000#24, zero, .blink) := by decide

/-- Table 2.6, second row, channels 0, 7, 9 and 14. -/
theorem test_decoder : let s := mk false #v[0x01#8, 0x40#8, 0x08#8, 0x30#8] .blink []
    s.chanState 0#4 = 0b01#2 ∧ s.chanState 7#4 = 0b01#2 ∧ s.chanState 9#4 = 0b10#2 ∧ s.chanState 14#4 = 0b11#2 := by
  decide

/-! ### Witnesses: a state and operands that meet the hypotheses of each statement that has some -/

/-- A device (`0x60`, registers `0x01` and `0x14` to `0x17`) that holds what the block believes. -/
def agreed (line : Bool) (as : List Answer) : State :=
  { State.construct { Config.atReset with hasResetLine := line } with
    answers := as, device := [(24577, 0x00#8), (24596, 0x00#8), (24597, 0x00#8), (24598, 0x00#8), (24599, 0x00#8)] }

theorem plain_oks (g : GroupMode) : (plain g (oks 17)).succeeds 17 := by
  intro k hk
  have h : ∀ k, k < 17 → (oks 17)[k]? = some (.done 0x00#8) := by decide
  show (((oks 17)[k]?).getD _).succeeded = true
  rw [h k hk]; rfl

theorem plain_succeeds (g : GroupMode) (n : Nat) (h : n ≤ 17) : (plain g (oks 17)).succeeds n :=
  fun k hk => plain_oks g k (by omega)

theorem witness_EncodedInstructionDecodesBack :
    ∀ c, Instr.enable ≠ .turnoff c ∧ Instr.enable ≠ .turnon c ∧ Instr.enable ≠ .setpwm c := by decide

theorem witness_DecodedWordEncodesBack : decode 0x2F0300#24 = .ok (.setstate 15#4 .group) := by decide

theorem witness_OpcodeRowsDisjoint : ∃ x ∈ opcodeRows, x.selects 0x250200#24 = true := by decide

theorem witness_StepRunsDecodedCommand :
    (State.reset.withFetchWord 24 0x601780).inputs = .command 0x601780#24 :: [] ∧
    decode 0x601780#24 = .ok (.grpblink 0x17#8 0x80#8) := by decide

theorem witness_IllegalWordOnlyResponds : (State.reset.withFetchWord 24 0xB00000).inputs = .command 0xB00000#24 :: [] ∧
    ∀ x ∈ opcodeRows, 0xB00000#24 &&& x.mask ≠ x.matchBits := by decide

theorem witness_WaitingChangesNothing : State.reset.inputs = [] := by decide

theorem witness_BlockResetValues :
    ({ plain .blink [] with inputs := [.blockReset] } : State).inputs = .blockReset :: [] := by decide

theorem witness_one_write_succeeds : (plain .blink (oks 17)).succeeds 1 := plain_succeeds .blink 1 (by decide)

/-- For the failure clauses of SetstateResult, SetdutyResult, EnableResult, BusresetResult and AssigngrpFailures. -/
theorem witness_first_write_fails : (plain .blink [.fail true]).answerAt 0 = .fail true ∧
    (plain .pwmDutyOnly [.fail false]).answerAt 0 = .fail false ∧
    ((plain .pwmDutyOnly [.fail false]).answerAt 0).succeeded = false := by decide

/-- FailedWriteReachesDeviceOrNot: both outcomes, at the first write and at the last of a RESET. -/
theorem witness_FailedWriteReachesDeviceOrNot :
    (∃ t, exec .reset (plain .blink [.fail true]) = .next t ∧
      t.response = some (0b01#2 ++ BitVec.ofNat 6 0 ++ 0#16)) ∧
    (∃ t, exec .reset (plain .blink (oks 16 ++ [.fail false])) = .next t ∧
      t.response = some (0b01#2 ++ BitVec.ofNat 6 16 ++ 0#16)) ∧
    (plain .blink [.fail true]).answerAt 0 = .fail true ∧
    (plain .blink (oks 16 ++ [.fail false])).answerAt 16 = .fail false ∧
    (plain .blink []).params.hasResetLine = false :=
  ⟨⟨_, rfl, by decide⟩, ⟨_, rfl, by decide⟩, by decide, by decide, by decide⟩

/-- For the second failure clause of AssigngrpFailures, GroupModeFailures and ClrerrResult. -/
theorem witness_second_write_fails :
    (plain .blink [.done 0x00#8, .fail true]).failsFirstAt 1 ∧ (plain .pwmDutyOnly [.done 0x00#8, .fail true]).failsFirstAt 1 ∧
    (plain .blink [.done 0x00#8, .fail true]).answerAt 1 = .fail true ∧
    (plain .pwmDutyOnly [.done 0x00#8, .fail true]).answerAt 1 = .fail true := by
  simp only [State.failsFirstAt, State.succeeds]; decide

/-- For the third failure clause of GroupModeFailures. -/
theorem witness_third_write_fails : (plain .pwmDutyOnly (oks 2 ++ [.fail true])).succeeds 2 ∧
    (plain .pwmDutyOnly (oks 2 ++ [.fail true])).answerAt 2 = .fail true := by
  simp only [State.succeeds]; decide

theorem witness_ThinCallersComplete : (plain .pwmDutyOnly (oks 17)).succeeds 1 := plain_succeeds .pwmDutyOnly 1 (by decide)

theorem witness_AssigngrpCompletes : (plain .pwmDutyOnly (oks 17)).succeeds 2 := plain_succeeds .pwmDutyOnly 2 (by decide)

theorem witness_GrpdutyCompletes :
    ((plain .blink (oks 17)).block.groupMode = .blink ∧ (plain .blink (oks 17)).succeeds 2) ∧
    (plain .pwmDutyOnly (oks 17)).block.groupMode = .pwmDutyOnly ∧ (plain .pwmDutyOnly (oks 17)).succeeds 1 :=
  ⟨⟨rfl, plain_succeeds .blink 2 (by decide)⟩, rfl, plain_succeeds .pwmDutyOnly 1 (by decide)⟩

theorem witness_GrpblinkCompletes :
    ((plain .pwmDutyOnly (oks 17)).block.groupMode = .pwmDutyOnly ∧ (plain .pwmDutyOnly (oks 17)).succeeds 3) ∧
    (plain .blink (oks 17)).block.groupMode = .blink ∧ (plain .blink (oks 17)).succeeds 2 :=
  ⟨⟨rfl, plain_succeeds .pwmDutyOnly 3 (by decide)⟩, rfl, plain_succeeds .blink 2 (by decide)⟩

theorem witness_SetstateIsolatesChannels :
    ∃ t, exec (.setstate 15#4 .group) (mk false #v[0xE4#8, 0xE4#8, 0xE4#8, 0xE4#8] .blink [.fail true]) = .next t :=
  ⟨_, rfl⟩

theorem witness_ModeBitTogglesExactlyTwice : ∃ s1 s2 s3 s4,
    (plain .pwmDutyOnly (oks 17)).block.groupMode = .pwmDutyOnly ∧ (plain .pwmDutyOnly (oks 17)).succeeds 8 ∧
    exec (.grpduty 0x10#8) (plain .pwmDutyOnly (oks 17)) = .next s1 ∧ exec (.grpblink 0x17#8 0x80#8) s1 = .next s2 ∧
    exec (.grpblink 0x2F#8 0x40#8) s2 = .next s3 ∧ exec (.grpduty 0xFF#8) s3 = .next s4 :=
  ⟨_, _, _, _, rfl, plain_succeeds .pwmDutyOnly 8 (by decide), rfl, rfl, rfl, rfl⟩

/-- The clauses of ChkerrCompletes, ErrorMaskAssembly and ErrorStateMachine: both reads answered, either one failed. -/
theorem witness_reads :
    ((plain .blink [.done 0x01#8, .done 0xFF#8]).answerAt 0 = .done 0x01#8 ∧
      (plain .blink [.done 0x01#8, .done 0xFF#8]).answerAt 1 = .done 0xFF#8) ∧
    ((plain .blink [.done 0xFF#8, .done 0xFF#8]).answerAt 0 = .done 0xFF#8 ∧
      (plain .blink [.done 0xFF#8, .done 0xFF#8]).answerAt 1 = .done 0xFF#8) ∧
    ((plain .blink [.fail false, .done 0xFF#8]).answerAt 0).succeeded = false ∧
    ((plain .blink [.done 0xFF#8, .fail false]).answerAt 1).succeeded = false := by decide

theorem witness_ErrorMaskAssembly : ∃ t u x, exec .chkerr (plain .blink [.done 0x01#8, .done 0xFF#8]) = .next t ∧
    exec .descerr t = .next u ∧ u.response = some x := ⟨_, _, _, rfl, rfl, rfl⟩

theorem witness_ErrorStateMachine : Instr.clrerr ≠ .chkerr ∧ (∃ t, exec .clrerr (checked .faulted 0xFDF7#16) = .next t) ∧
    ∃ t, exec .chkerr (plain .blink [.fail true, .fail false]) = .next t := ⟨by decide, ⟨_, rfl⟩, ⟨_, rfl⟩⟩

/-- The four clauses of DescerrReports. -/
theorem witness_DescerrReports : (checked .faulted 0x0000#16).block.errStatus = .faulted ∧
    (checked .commFailure 0xFF01#16).block.errStatus = .commFailure ∧
    (checked .clean 0xFFFF#16).block.errStatus = .clean ∧ State.reset.block.errStatus = .unknown := by decide

theorem witness_DescerrListsFaultedChannels : ∃ t x, (checked .faulted 0xFDF7#16).block.errStatus = .faulted ∧
    exec .descerr (checked .faulted 0xFDF7#16) = .next t ∧ t.response = some x := ⟨_, _, rfl, rfl, rfl⟩

theorem witness_DescerrReportsThePast : ∃ t u, (∀ i ∈ [Instr.clrerr, .enable], i ≠ .chkerr) ∧
    exec .descerr (checked .faulted 0xFDF7#16) = .next t ∧
    exec .descerr (runAll [.clrerr, .enable] (checked .faulted 0xFDF7#16)) = .next u :=
  ⟨_, _, by decide, rfl, rfl⟩

theorem witness_ClrerrResult : (plain .blink (oks 17)).succeeds 2 := plain_succeeds .blink 2 (by decide)

/-- The first clause; the last has `witness_TransactionsStayInTheMap`. -/
theorem witness_ErrorFieldsAffectNoOtherCommand : Instr.enable ≠ .descerr ∧ Instr.enable ≠ .chkerr ∧
    ∃ t, exec .enable (checked .faulted 0xFDF7#16) = .next t := ⟨by decide, by decide, _, rfl⟩

/-- Both clauses of ResetByLineResult; ResetByLineRestoresSynced. -/
theorem witness_ResetByLineResult : (mk true zero .blink (oks 1)).params.hasResetLine = true ∧
    (mk true zero .blink (oks 1)).succeeds 1 ∧ ((mk true zero .blink [.fail true]).answerAt 0).succeeded = false := by
  simp only [State.succeeds]; decide

/-- Both clauses of ResetByLineDevice. -/
theorem witness_ResetByLineDevice :
    (mk true zero .blink (oks 1)).params.hasResetLine = true ∧ (mk true zero .blink (oks 1)).answerAt 0 ≠ .fail false ∧
    (mk true zero .blink [.fail false]).answerAt 0 = .fail false ∧
    ∃ t, exec .reset (mk true zero .blink (oks 1)) = .next t := ⟨by decide, by decide, by decide, _, rfl⟩

/-- ResetByWritesCompletes and ResetByWritesConvergesLedoutOnly. -/
theorem witness_ResetByWritesCompletes : (plain .blink (oks 17)).params.hasResetLine = false ∧
    (plain .blink (oks 17)).succeeds 17 ∧ ∃ t, exec .reset (plain .blink (oks 17)) = .next t :=
  ⟨by decide, plain_oks .blink, _, rfl⟩

/-- The first write, the last LEDOUT write and the enable write. -/
theorem witness_ResetByWritesStopsAtFailedWrite : (plain .blink [.fail true]).params.hasResetLine = false ∧
    (plain .blink [.fail true]).failsFirstAt 0 ∧ (plain .blink (oks 15 ++ [.fail true])).failsFirstAt 15 ∧
    (plain .blink (oks 16 ++ [.fail true])).failsFirstAt 16 := by
  simp only [State.failsFirstAt, State.succeeds]; decide

theorem witness_OnlyBusresetBroadcasts : ∃ t, exec .busreset (plain .blink (oks 17)) = .next t ∧
    .write 0x6B#7 0xA5#8 0x5A#8 ∈ t.trace := ⟨_, rfl, by decide⟩

/-- WritersOfBlockState: each field written by a command. -/
theorem witness_WritersOfBlockState :
    (∃ t, exec (.turnon 0#4) (plain .blink (oks 17)) = .next t ∧ t.block.mirror ≠ (plain .blink (oks 17)).block.mirror) ∧
    (∃ t, exec (.grpduty 0x00#8) (plain .blink (oks 17)) = .next t ∧
      t.block.groupMode ≠ (plain .blink (oks 17)).block.groupMode) ∧
    (∃ t, exec .chkerr (plain .blink (oks 17)) = .next t ∧
      t.block.errStatus ≠ (plain .blink (oks 17)).block.errStatus) ∧
    (∃ t, exec .reset ((mk true zero .blink (oks 1)).setLine .inactive) = .next t ∧
      t.block.resetLine ≠ ((mk true zero .blink (oks 1)).setLine .inactive).block.resetLine) :=
  ⟨⟨_, rfl, by decide⟩, ⟨_, rfl, by decide⟩, ⟨_, rfl, by decide⟩, ⟨_, rfl, by decide⟩⟩

/-- DutyBytesUnchanged: a duty of the first and of the last channel, the group duty and the frequency. -/
theorem witness_DutyBytesUnchanged :
    (∃ t, exec (.setduty 0#4 0x40#8) (plain .blink (oks 17)) = .next t ∧ w 0x02#8 0x40#8 ∈ t.trace) ∧
    (∃ t, exec (.assigngrp 15#4) (plain .blink (oks 17)) = .next t ∧ w 0x11#8 0xFF#8 ∈ t.trace) ∧
    (∃ t, exec (.grpblink 0x17#8 0x80#8) (plain .blink (oks 17)) = .next t ∧ w 0x12#8 0x80#8 ∈ t.trace ∧
      w 0x13#8 0x17#8 ∈ t.trace) :=
  ⟨⟨_, rfl, by decide⟩, ⟨_, rfl, by decide⟩, ⟨_, rfl, by decide⟩⟩

theorem witness_ModeRegisterWriters :
    (∃ t, exec (.grpduty 0x40#8) (plain .blink (oks 17)) = .next t ∧ w 0x01#8 0x00#8 ∈ t.trace) ∧
    (∃ t, exec (.grpblink 0x17#8 0x80#8) (plain .pwmDutyOnly (oks 17)) = .next t ∧ w 0x01#8 0x20#8 ∈ t.trace) ∧
    (∃ t, exec .clrerr (plain .blink (oks 17)) = .next t ∧ w 0x01#8 0xA0#8 ∈ t.trace) :=
  ⟨⟨_, rfl, by decide⟩, ⟨_, rfl, by decide⟩, ⟨_, rfl, by decide⟩⟩

/-- TransactionsStayInTheMap: the highest register written, a register read. -/
theorem witness_TransactionsStayInTheMap :
    (∃ t, exec (.turnon 15#4) (plain .blink (oks 17)) = .next t ∧ w 0x17#8 0x40#8 ∈ t.trace) ∧
    (∃ t, exec .chkerr (plain .blink (oks 17)) = .next t ∧ r 0x1E#8 ∈ t.trace) :=
  ⟨⟨_, rfl, by decide⟩, ⟨_, rfl, by decide⟩⟩

theorem witness_EveryTransactionTakesOneAnswer : ∃ t, exec .reset (plain .blink (oks 17)) = .next t := ⟨_, rfl⟩

/-- TransportErrorIsPrecise: an error is reported; a transaction failed. -/
theorem witness_TransportErrorIsPrecise : ∃ t, exec .clrerr (plain .blink [.done 0x00#8, .fail true]) = .next t ∧
    t.response = some (0b01#2 ++ BitVec.ofNat 6 1 ++ 0#16) ∧ 1 < transactions t.trace ∧
    ((plain .blink [.done 0x00#8, .fail true]).answerAt 1).succeeded = false := ⟨_, rfl, by decide, by decide, by decide⟩

theorem witness_DeviceFollowsTrace : ∃ t, exec .clrerr (plain .blink (oks 17)) = .next t ∧
    ∀ k, k < transactions t.trace → ((plain .blink (oks 17)).answerAt k).succeeded = true :=
  ⟨_, rfl, fun k hk => plain_oks .blink k (Nat.lt_trans hk (by decide))⟩

/-- BlockIndependentOfDevice: two different devices, and a failed write that reached the device or not. -/
theorem witness_BlockIndependentOfDevice : let s := plain .blink [.fail true]
    let s' := { agreed false [.fail false] with block := s.block, params := s.params }
    s'.block = s.block ∧ s'.params = s.params ∧ (∀ k, (s'.answerAt k).succeeded = (s.answerAt k).succeeded) ∧
    (∃ t, exec .enable s = .next t) ∧ ∃ t, exec .enable s' = .next t :=
  ⟨rfl, rfl, fun k => by cases k <;> rfl, ⟨_, rfl⟩, ⟨_, rfl⟩⟩

theorem witness_StepKeepsInvariant : State.reset.Inv ∧ ∃ t, step (State.reset.withFetchWord 24 0x100000) = .next t :=
  ⟨⟨by decide, rfl, by simp [State.ErrCoherent, State.reset, State.construct, Block.afterReset],
    by simp [State.reset, State.construct], rfl⟩, _, rfl⟩

theorem witness_ResetMeetsInvariant : Params.legal { Config.atReset with devAddr := 0x6F#7 } = true := by decide

theorem witness_SuccessfulCommandKeepsSynced : (agreed false (oks 2)).Synced ∧ Instr.assigngrp 5#4 ≠ .busreset ∧
    ∃ t, exec (.assigngrp 5#4) (agreed false (oks 2)) = .next t ∧
      ∀ k, k < transactions t.trace → ((agreed false (oks 2)).answerAt k).succeeded = true := by
  refine ⟨⟨?_, rfl⟩, by decide, _, rfl, by decide⟩
  simp only [State.LedoutSynced]; decide

theorem witness_ResetByLineRestoresSynced : ∃ t, exec .reset (mk true zero .blink (oks 1)) = .next t := ⟨_, rfl⟩

/-- ModeBitRepaired: both pairs and CLRERR. -/
theorem witness_ModeBitRepaired : (plain .blink (oks 17)).succeeds 5 ∧
    (∃ t u, exec (.grpblink 0x17#8 0x80#8) (plain .blink (oks 17)) = .next t ∧ exec (.grpduty 0x10#8) t = .next u) ∧
    (∃ t u, exec (.grpduty 0x10#8) (plain .blink (oks 17)) = .next t ∧ exec (.grpblink 0x17#8 0x80#8) t = .next u) ∧
    ∃ t, exec .clrerr (plain .blink (oks 17)) = .next t :=
  ⟨plain_succeeds .blink 5 (by decide), ⟨_, _, rfl, rfl⟩, ⟨_, _, rfl, rfl⟩, _, rfl⟩

theorem witness_RepeatedGroupCommandSkipsModeWrite :
    (∃ t u, exec (.grpduty 0x80#8) (plain .blink [.fail false]) = .next t ∧ exec (.grpduty 0x80#8) t = .next u) ∧
    (∃ t u, exec (.grpblink 0x17#8 0x80#8) (plain .pwmDutyOnly [.done 0x00#8, .fail false]) = .next t ∧
      exec (.grpblink 0x17#8 0x80#8) t = .next u) ∧
    ((plain .blink [.fail false]).answerAt 0).succeeded = false ∧
    (plain .pwmDutyOnly [.done 0x00#8, .fail false]).failsFirstAt 1 :=
  ⟨⟨_, _, rfl, rfl⟩, ⟨_, _, rfl, rfl⟩, by decide, by simp only [State.failsFirstAt, State.succeeds]; decide⟩

theorem witness_DutyStaysAfterLeavingGroup : (plain .blink (oks 17)).succeeds 3 ∧
    ∃ t u, exec (.assigngrp 9#4) (plain .blink (oks 17)) = .next t ∧ exec (.setstate 9#4 .pwm) t = .next u :=
  ⟨plain_succeeds .blink 3 (by decide), _, _, rfl, rfl⟩

/-- IdealDeviceAnswersAsSpecified: answered reads of CHKERR, the second one named as failing. -/
theorem witness_IdealDeviceAnswersAsSpecified :
    let s := plain .blink ((flags 0xF7#8 0xFD#8).answers [1])
    (∀ n, n < 17 → s.answers[n]? = ((flags 0xF7#8 0xFD#8).answers [1])[n]?) ∧ 1 ∈ [1] ∧ 0 ∉ [1] ∧
    (∃ t, exec .chkerr s = .next t ∧ (t.trace.filter Event.isTransaction)[0]? = some (r 0x1D#8) ∧
      (t.trace.filter Event.isTransaction)[1]? = some (r 0x1E#8)) ∧ (r 0x1D#8).isTransaction = true :=
  ⟨fun _ _ => rfl, by decide, by decide, ⟨_, rfl, rfl, rfl⟩, rfl⟩

/-- A register file that holds zero in registers `0x00` to `0x17` of device `0x60`, as the ideal device does. -/
def zeroed : State := { plain .blink [] with device := (List.range 24).map fun k => (24576 + k, 0x00#8) }

theorem witness_IdealDeviceAgreesWithRegisterFile : (∀ r : Byte, r.toNat ≤ 0x17 →
    (flags 0xFF#8 0xFF#8).read r = some (zeroed.readDevice zeroed.params.devAddr r)) ∧ 0x250100#24 ≠ 0xA0A55A#24 := by
  refine ⟨fun r hr => ?_, by decide⟩
  have h : ∀ k, k < 24 → (flags 0xFF#8 0xFF#8).read (BitVec.ofNat 8 k) =
      some (zeroed.readDevice zeroed.params.devAddr (BitVec.ofNat 8 k)) := by decide
  simpa using h r.toNat (by omega)

end Sys2Proof.Tests
end

/-! The statements of 00_scope.md. What one command can do to the state is said once: a predicate that every
primitive of a command keeps is kept by every instruction, and no command issues more than 17 transactions
(`KeptByPrimitives.exec_within`). The accounting of answers and the machine's invariant are two such predicates. -/

namespace Sys2Proof.Machine

/-! ### The response word, field by field (R88) -/

section ResponseWord

variable (status : BitVec 2) (k : BitVec 6) (result : Mask16)

@[simp] theorem responseWord_status : (responseWord status k result).extractLsb' 22 2 = status := by
  apply BitVec.eq_of_getLsbD_eq; intro i hi
  simp only [responseWord, BitVec.getLsbD_extractLsb', BitVec.getLsbD_append]
  simp [hi, show ¬ 22 + i < 16 by omega, show ¬ 22 + i - 16 < 6 by omega,
    show 22 + i - 16 - 6 = i by omega]

@[simp] theorem responseWord_k : (responseWord status k result).extractLsb' 16 6 = k := by
  apply BitVec.eq_of_getLsbD_eq; intro i hi
  simp only [responseWord, BitVec.getLsbD_extractLsb', BitVec.getLsbD_append]
  simp [hi]

@[simp] theorem responseWord_result : (responseWord status k result).extractLsb' 0 16 = result := by
  apply BitVec.eq_of_getLsbD_eq; intro i hi
  simp only [responseWord, BitVec.getLsbD_extractLsb', BitVec.getLsbD_append]
  simp [hi]

end ResponseWord

theorem responseLegal_okWord {k : BitVec 6} (result : Mask16) (hk : k.toNat ≤ 3) : ResponseLegal (okWord k result) :=
  .inl ⟨responseWord_status _ _ _, by rwa [okWord, responseWord_k]⟩

theorem responseLegal_transportErrorWord {k : Nat} (hk : k ≤ 16) : ResponseLegal (transportErrorWord k) := by
  have hmod : (BitVec.ofNat 6 k).toNat = k := by
    rw [BitVec.toNat_ofNat, Nat.mod_eq_of_lt (by omega)]
  exact .inr (.inl ⟨responseWord_status _ _ _, by rwa [transportErrorWord, responseWord_k, hmod],
    responseWord_result _ _ _⟩)

theorem responseLegal_illegalCommand : ResponseLegal 0x800000#24 := .inr (.inr rfl)

/-- A report kind is a code of `errStatus`, so at most 3 (R88, R152). -/
theorem reportKind_le (st : ErrStatus) : (reportKind st).toNat ≤ 3 := by cases st <;> decide

/-! ### Predicates that a command keeps -/

/-- The reset pulse of R172: the line Inactive, the hold, the line Active again. -/
def linePulse (s : State) : State := lineSet .active (delay (lineSet .inactive s))

/-- The pulse is three events, none of them a transaction (R12). -/
theorem transactions_linePulse (s : State) : transactions (linePulse s).trace = transactions s.trace := by
  simp [linePulse, lineSet_active, lineSet_inactive, delay_eq]

/-- `I` is kept by every primitive a command is made of. An OK response carries a report kind; TransportError carries
the number of one of at most 17 transactions. -/
structure KeptByPrimitives (I : State → Prop) : Prop where
  setMirror : ∀ {s : State} (i : Fin 4) (v : Byte), I s → I (s.setMirror i v)
  clearMirror : ∀ {s : State}, I s → I s.clearMirror
  setGroupMode : ∀ {s : State} (g : GroupMode), I s → I (s.setGroupMode g)
  linePulse : ∀ {s : State}, I s → I (linePulse s)
  issueWrite : ∀ {s : State} (d : DevAddr) (reg v : Byte), I s → I (issueWrite d reg v s)
  storeDevice : ∀ {s : State} (d : DevAddr) (reg v : Byte), I s → I (s.storeDevice d reg v)
  busResetDevices : ∀ {s : State}, I s → I s.busResetDevices
  afterRead : ∀ {s : State} (reg : Byte), I s → I (afterRead reg s)
  setErr : ∀ {s : State} (lo hi : Option Byte), I s → I (s.setErr (checkOutcome s.params.commFailSentinel lo hi))
  respondOk : ∀ {s : State} {k : BitVec 6} (result : Mask16), k.toNat ≤ 3 → I s → I (s.respond (okWord k result))
  respondError : ∀ {s : State} {k : Nat}, k ≤ 16 → I s → I (s.respond (transportErrorWord k))

/-- `I` holds and the command has issued at most `n` transactions. -/
def State.Within (I : State → Prop) (n : Nat) (s : State) : Prop := I s ∧ transactions s.trace ≤ n

/-- What a command's steps establish: a command that goes on has issued at most `n` transactions, one that a failed
write has ended at most 17; `I` holds either way. -/
def Flow.Within (I : State → Prop) (n : Nat) : Flow → Prop
  | .cont s => s.Within I n
  | .ended s => s.Within I 17

theorem State.Within.mono {I : State → Prop} {s : State} {m n : Nat} (hs : s.Within I m) (h : m ≤ n) :
    s.Within I n := ⟨hs.1, hs.2.trans h⟩

theorem Flow.Within.mono {I : State → Prop} {f : Flow} {m n : Nat} (hf : f.Within I m) (h : m ≤ n) :
    f.Within I n := by
  cases f with
  | cont s => exact State.Within.mono hf h
  | ended s => exact hf

theorem Flow.Within.state {I : State → Prop} {f : Flow} {n : Nat} (hn : n ≤ 17) (hf : f.Within I n) :
    f.state.Within I 17 := by
  cases f with
  | cont s => exact State.Within.mono hf hn
  | ended s => exact hf

/-- The rule of sequencing: an exception that ended the first steps stands. -/
theorem Flow.Within.andThen {I : State → Prop} {f : Flow} {k : State → Flow} {m n : Nat} (hf : f.Within I m)
    (hk : ∀ s, s.Within I m → (k s).Within I n) : (f.andThen k).Within I n := by
  cases f with
  | cont s => exact hk s hf
  | ended s => exact hf

namespace KeptByPrimitives

variable {I : State → Prop} {s : State} {m : Nat} (hI : KeptByPrimitives I)

include hI

/-- The write primitive: one transaction, whichever of the three answers it is given. -/
theorem busWrite_within {dev : DevAddr} {reg v : Byte} {reach : State → State} (hm : m ≤ 16)
    (hreach : ∀ t, t.Within I (m + 1) → (reach t).Within I (m + 1)) (hs : s.Within I m) :
    (busWrite dev reg v reach s).Within I (m + 1) := by
  obtain ⟨hIs, hcount⟩ := hs
  have hissued : (Machine.issueWrite dev reg v s).Within I (m + 1) :=
    ⟨hI.issueWrite dev reg v hIs, by simpa using hcount⟩
  rcases busWrite_cases dev reg v reach s with ⟨_, heq⟩ | ⟨reached, _, heq⟩
  · rw [heq]; exact hreach _ hissued
  · have hleft : (if reached then reach (Machine.issueWrite dev reg v s) else Machine.issueWrite dev reg v s).Within
        I (m + 1) := by
      split
      · exact hreach _ hissued
      · exact hissued
    rw [heq]
    exact ⟨hI.respondError (hcount.trans hm) hleft.1, hleft.2.trans (by omega)⟩

theorem memWrite_within {reg v : Byte} (hm : m ≤ 16) (hs : s.Within I m) : (memWrite reg v s).Within I (m + 1) :=
  hI.busWrite_within hm (fun t ht => ⟨hI.storeDevice t.params.devAddr reg v ht.1, ht.2⟩) hs

theorem setChannel_within {c : Channel} {st : ChanState} (hm : m ≤ 16) (hs : s.Within I m) :
    (setChannel c st s).Within I (m + 1) :=
  hI.memWrite_within hm ⟨hI.setMirror _ _ hs.1, hs.2⟩

theorem writeMode_within {clr : Bool} (hm : m ≤ 16) (hs : s.Within I m) : (writeMode clr s).Within I (m + 1) :=
  hI.memWrite_within hm hs

/-- One transaction on a change of mode, none without (R131 to R133). -/
theorem switchMode_within {g : GroupMode} (hm : m ≤ 16) (hs : s.Within I m) : (switchMode g s).Within I (m + 1) := by
  by_cases hg : s.block.groupMode = g
  · rw [switchMode_same hg]; exact hs.mono (Nat.le_succ m)
  · rw [switchMode_other hg]; exact hI.memWrite_within hm ⟨hI.setGroupMode g hs.1, hs.2⟩

theorem doEnable_within (hm : m ≤ 16) (hs : s.Within I m) : (doEnable s).Within I (m + 1) :=
  hI.memWrite_within hm hs

/-- Switching off a list of channels takes at most one transaction for each. -/
theorem offAll_within {cs : List Channel} (hm : m + cs.length ≤ 17) (hs : s.Within I m) :
    (offAll cs s).Within I (m + cs.length) := by
  induction cs generalizing s m with
  | nil => exact hs
  | cons c cs ih =>
    rw [List.length_cons] at hm ⊢
    rw [offAll_cons, show m + (cs.length + 1) = m + 1 + cs.length by omega]
    exact (hI.setChannel_within (by omega) hs).andThen fun t ht => ih (by omega) ht

theorem resetByLine_within (hs : s.Within I 0) : (resetByLine s).Within I 1 := by
  have hcount : transactions (Machine.linePulse s).trace ≤ 0 := (transactions_linePulse s).trans_le hs.2
  exact hI.doEnable_within (by omega)
    ⟨hI.setGroupMode .pwmDutyOnly (hI.clearMirror (hI.linePulse hs.1)), hcount⟩

theorem resetByWrites_within (hs : s.Within I 0) : (resetByWrites s).Within I 17 :=
  (hI.offAll_within (cs := allChannels) (by decide) hs).andThen fun _ ht => hI.doEnable_within (by decide) ht

/-- RESET in either form issues at most 17 transactions (R171). -/
theorem resetSteps_within (hs : s.Within I 0) :
    (if s.params.hasResetLine then resetByLine s else resetByWrites s).Within I 17 := by
  split
  · exact (hI.resetByLine_within hs).mono (by decide)
  · exact hI.resetByWrites_within hs

/-- How every command that no exception ended ends: an OK response with a report kind (R88). -/
theorem returnOk_within {k : BitVec 6} {result : Mask16} (hk : k.toNat ≤ 3) (hs : s.Within I m) :
    (returnOk k result s).Within I m := ⟨hI.respondOk result hk hs.1, hs.2⟩

theorem afterRead_within {reg : Byte} (hs : s.Within I m) : (Machine.afterRead reg s).Within I (m + 1) :=
  ⟨hI.afterRead reg hs.1, by simpa [Machine.afterRead] using hs.2⟩

/-- A command whose steps stay within 17 transactions, and which then returns OK (R11). -/
theorem complete {t : State} {n : Nat} (body : State → Flow) (hn : n ≤ 17) (hb : (body s.beginCommand).Within I n)
    (hx : command (fun u => (body u).andThen (returnOk 0#6 0#16)) s = .next t) : t.Within I 17 := by
  cases hx
  exact (hb.andThen fun _ hu => hI.returnOk_within (by decide) hu).state hn

/-- CHKERR keeps `I`: two reads, then the error fields from what they answered (R151). -/
theorem execChkerr_within {t : State} (hs : s.beginCommand.Within I 0) (hx : execChkerr s = .next t) :
    t.Within I 17 := by
  cases hx
  have hread := hI.afterRead_within (reg := eflagHiReg) (hI.afterRead_within (reg := eflagLoReg) hs)
  exact (hI.returnOk_within (by decide) ⟨hI.setErr _ _ hread.1, hread.2⟩).state (n := 2) (by decide)

/-- DESCERR keeps `I`: it issues nothing and responds with a report kind (R152). -/
theorem execDescerr_within {t : State} (hs : s.beginCommand.Within I 0) (hx : execDescerr s = .next t) :
    t.Within I 17 := by
  cases hx
  exact (hI.returnOk_within (reportKind_le _) hs).state (by decide)

/-- Every instruction keeps what the primitives keep, and issues at most 17 transactions. -/
theorem exec_within {i : Instr} {t : State} (hbegin : I s.beginCommand) (hx : exec i s = .next t) :
    t.Within I 17 := by
  have hs : s.beginCommand.Within I 0 := ⟨hbegin, Nat.le_refl 0⟩
  cases i with
  | enable => exact hI.complete doEnable (by decide) (hI.doEnable_within (by decide) hs) hx
  | reset =>
    exact hI.complete (fun u => if u.params.hasResetLine then resetByLine u else resetByWrites u) (by decide)
      (hI.resetSteps_within hs) hx
  | setstate c st => exact hI.complete (setChannel c st) (by decide) (hI.setChannel_within (by decide) hs) hx
  | setduty c d => exact hI.complete (memWrite (pwmReg c) d) (by decide) (hI.memWrite_within (by decide) hs) hx
  | assigngrp c =>
    exact hI.complete (fun u => (memWrite (pwmReg c) maxDuty u).andThen (setChannel c .group)) (by decide)
      ((hI.memWrite_within (by decide) hs).andThen fun _ => hI.setChannel_within (by decide)) hx
  | grpduty d =>
    exact hI.complete (fun u => (switchMode .pwmDutyOnly u).andThen (memWrite grpDutyReg d)) (by decide)
      ((hI.switchMode_within (by decide) hs).andThen fun _ => hI.memWrite_within (by decide)) hx
  | grpblink f d =>
    exact hI.complete
      (fun u => ((memWrite grpDutyReg d u).andThen (switchMode .blink)).andThen (memWrite grpFreqReg f)) (by decide)
      (((hI.memWrite_within (by decide) hs).andThen fun _ => hI.switchMode_within (by decide)).andThen
        fun _ => hI.memWrite_within (by decide)) hx
  | chkerr => exact hI.execChkerr_within hs hx
  | descerr => exact hI.execDescerr_within hs hx
  | clrerr =>
    exact hI.complete (fun u => (writeMode true u).andThen (writeMode false)) (by decide)
      ((hI.writeMode_within (by decide) hs).andThen fun _ => hI.writeMode_within (by decide)) hx
  | busreset =>
    exact hI.complete (busWrite swrstDev swrstReg swrstVal State.busResetDevices) (by decide)
      (hI.busWrite_within (by decide) (fun _ ht => ⟨hI.busResetDevices ht.1, ht.2⟩) hs) hx
  | turnoff c => exact hI.complete (setChannel c .off) (by decide) (hI.setChannel_within (by decide) hs) hx
  | turnon c => exact hI.complete (setChannel c .on) (by decide) (hI.setChannel_within (by decide) hs) hx
  | setpwm c => exact hI.complete (setChannel c .pwm) (by decide) (hI.setChannel_within (by decide) hs) hx

end KeptByPrimitives

/-! ### Answers are used up one per transaction (R12, R53) -/

/-- `s` stands in a command that began in `s0`: each transaction of the trace used up one answer, and the host's
script and the parameters are as at the beginning. -/
structure State.Accounts (s0 s : State) : Prop where
  answers : s.answers = s0.answers.drop (transactions s.trace)
  issued : s.issued = s0.issued + transactions s.trace
  inputs : s.inputs = s0.inputs
  params : s.params = s0.params

theorem State.Accounts.beginCommand (s : State) : s.Accounts s.beginCommand := ⟨rfl, rfl, rfl, rfl⟩

section Accounts

variable {s0 s t : State}

/-- A primitive that issues no transaction leaves the account as it is. -/
theorem State.Accounts.of_no_transaction (h : s0.Accounts s) (htrace : transactions t.trace = transactions s.trace)
    (hanswers : t.answers = s.answers) (hissued : t.issued = s.issued) (hinputs : t.inputs = s.inputs)
    (hparams : t.params = s.params) : s0.Accounts t :=
  ⟨by rw [hanswers, htrace, h.answers], by rw [hissued, htrace, h.issued], hinputs.trans h.inputs,
    hparams.trans h.params⟩

/-- A transaction appends its event and takes one answer. -/
theorem State.Accounts.transaction (h : s0.Accounts s) (e : Event) (he : e.isTransaction = true) :
    s0.Accounts (s.emit e).takeAnswer where
  answers := by simp [he, h.answers]
  issued := by simp [he, h.issued, Nat.add_assoc]
  inputs := h.inputs
  params := h.params

end Accounts

/-- Each primitive is one transaction, or none. -/
theorem accounts_kept (s0 : State) : KeptByPrimitives s0.Accounts where
  setMirror _ _ h := h.of_no_transaction rfl rfl rfl rfl rfl
  clearMirror h := h.of_no_transaction rfl rfl rfl rfl rfl
  setGroupMode _ h := h.of_no_transaction rfl rfl rfl rfl rfl
  linePulse {s} h := h.of_no_transaction (transactions_linePulse s) rfl rfl rfl rfl
  issueWrite d reg v h := h.transaction (.write d reg v) rfl
  storeDevice _ _ _ h := h.of_no_transaction rfl rfl rfl rfl rfl
  busResetDevices h := h.of_no_transaction rfl rfl rfl rfl rfl
  afterRead {s} reg h := h.transaction (.read s.params.devAddr reg) rfl
  setErr _ _ h := h.of_no_transaction rfl rfl rfl rfl rfl
  respondOk _ _ h := h.of_no_transaction rfl rfl rfl rfl rfl
  respondError _ h := h.of_no_transaction rfl rfl rfl rfl rfl

/-! ### The invariant of the machine -/

/-- The error fields an error check sets agree with each other (R27, R150, R151). -/
theorem State.errCoherent_setErr (s : State) (lo hi : Option Byte) :
    (s.setErr (checkOutcome s.params.commFailSentinel lo hi)).ErrCoherent := by
  cases lo with
  | none => simp [State.ErrCoherent, checkOutcome]
  | some lo =>
    cases hi with
    | none => simp [State.ErrCoherent, checkOutcome]
    | some hi =>
      by_cases hmask : errorMask lo hi = noErrors
      · simp [State.ErrCoherent, checkOutcome, statusOfMask, hmask, noErrors]
      · have hfaulted : errorMask lo hi ≠ 0xFFFF#16 := hmask
        simp [State.ErrCoherent, checkOutcome, statusOfMask, hmask, hfaulted]

/-- The error fields of block reset are Unknown with mask 0 (R36). -/
theorem State.errCoherent_of_afterReset {s : State} (h : s.block = Block.afterReset) : s.ErrCoherent := by
  simp [State.ErrCoherent, h, Block.afterReset]

namespace State.Inv

variable {s t : State}

/-- The invariant reads the parameters, the error fields, the line, the response and the register file only. -/
theorem of_same (h : s.Inv) (hparams : t.params = s.params) (hline : t.block.resetLine = s.block.resetLine)
    (hstatus : t.block.errStatus = s.block.errStatus) (hmask : t.block.errMask = s.block.errMask)
    (hresponse : t.response = s.response) (hdevice : t.device = s.device) : t.Inv := by
  simpa only [State.Inv, State.ErrCoherent, hparams, hline, hstatus, hmask, hresponse, hdevice] using h

theorem respond {w : CmdWord} (h : s.Inv) (hw : ResponseLegal w) : (s.respond w).Inv := by
  obtain ⟨hlegal, hline, herr, _, hwf⟩ := h
  exact ⟨hlegal, hline, herr, fun _ heq => Option.some.inj heq ▸ hw, hwf⟩

theorem setErr (h : s.Inv) (lo hi : Option Byte) :
    (s.setErr (checkOutcome s.params.commFailSentinel lo hi)).Inv := by
  obtain ⟨hlegal, hline, _, hresp, hwf⟩ := h
  exact ⟨hlegal, hline, s.errCoherent_setErr lo hi, hresp, hwf⟩

theorem storeDevice (h : s.Inv) (d : DevAddr) (reg v : Byte) : (s.storeDevice d reg v).Inv := by
  obtain ⟨hlegal, hline, herr, hresp, hwf⟩ := h
  exact ⟨hlegal, hline, herr, hresp, Memory.wf_store _ _ _ _ hwf⟩

theorem busResetDevices (h : s.Inv) : s.busResetDevices.Inv := by
  obtain ⟨hlegal, hline, herr, hresp, _⟩ := h
  exact ⟨hlegal, hline, herr, hresp, Memory.wf_putDefaults _ rfl⟩

/-- The pulse ends with the line Active, and the reset of the device keeps the canonical form. -/
theorem linePulse (h : s.Inv) : (linePulse s).Inv := by
  obtain ⟨hlegal, _, herr, hresp, hwf⟩ := h
  exact ⟨hlegal, rfl, herr, hresp, Memory.wf_putDefaults _ (Memory.wf_forget _ hwf)⟩

/-- Block reset, between commands (R36). -/
theorem blockReset (h : s.Inv) : s.blockReset.Inv := by
  obtain ⟨hlegal, _, _, _, hwf⟩ := h
  exact ⟨hlegal, rfl, errCoherent_of_afterReset rfl, fun _ heq => (Option.some_ne_none _ heq.symm).elim, hwf⟩

/-- A refused word is its response and nothing else (R84). -/
theorem refuseCommand (h : s.Inv) : (refuseCommand s).Inv :=
  (h.of_same (t := s.beginCommand) rfl rfl rfl rfl rfl rfl).respond responseLegal_illegalCommand

theorem withInputs (h : s.Inv) (inputs : List Input) : ({ s with inputs := inputs } : State).Inv :=
  h.of_same rfl rfl rfl rfl rfl rfl

/-- Every primitive of a command keeps the invariant. -/
theorem kept : KeptByPrimitives State.Inv where
  setMirror _ _ h := h.of_same rfl rfl rfl rfl rfl rfl
  clearMirror h := h.of_same rfl rfl rfl rfl rfl rfl
  setGroupMode _ h := h.of_same rfl rfl rfl rfl rfl rfl
  linePulse h := h.linePulse
  issueWrite _ _ _ h := h.of_same rfl rfl rfl rfl rfl rfl
  storeDevice d reg v h := h.storeDevice d reg v
  busResetDevices h := h.busResetDevices
  afterRead _ h := h.of_same rfl rfl rfl rfl rfl rfl
  setErr lo hi h := h.setErr lo hi
  respondOk result hk h := h.respond (responseLegal_okWord result hk)
  respondError hk h := h.respond (responseLegal_transportErrorWord hk)

theorem exec {i : Instr} (h : s.Inv) (hx : exec i s = .next t) : t.Inv :=
  (kept.exec_within (h.of_same rfl rfl rfl rfl rfl rfl) hx).1

end State.Inv

/-- Block reset with legal parameters meets the invariant (R7, R36). -/
theorem State.construct_inv {p : Params} (hp : p.legal = true) : (State.construct p).Inv :=
  ⟨hp, rfl, errCoherent_of_afterReset rfl, fun _ heq => (Option.some_ne_none _ heq.symm).elim, rfl⟩

/-! ### The statements -/

/-- Settles O51: a step waits, resets the block, runs an instruction or refuses a word; each keeps the invariant. -/
theorem stepKeepsInvariant : Obligations.StepKeepsInvariant := by
  intro s t hs hstep
  rcases step_cases s with ⟨_, heq⟩ | ⟨rest, _, heq⟩ | ⟨_, rest, i, _, _, heq⟩ | ⟨_, rest, _, _, _, heq⟩
  all_goals rw [heq] at hstep
  · cases hstep; exact hs
  · cases hstep; exact (hs.withInputs rest).blockReset
  · exact (hs.withInputs rest).exec hstep
  · cases hstep; exact (hs.withInputs rest).refuseCommand

/-- Settles O46: the account of answers is kept by every primitive, and each command's steps are counted. -/
theorem everyTransactionTakesOneAnswer : Obligations.EveryTransactionTakesOneAnswer := by
  intro i s t hx
  obtain ⟨⟨hanswers, hissued, hinputs, hparams⟩, hcount⟩ :=
    (accounts_kept s).exec_within (State.Accounts.beginCommand s) hx
  exact ⟨hanswers, hissued, hcount, hinputs, hparams⟩

/-- Settles O7: of the four things a step can do, the presented word and its decoding leave one, the run of `i`. -/
theorem stepRunsDecodedCommand : Obligations.StepRunsDecodedCommand := by
  intro s w rest i hinputs hdecode
  rcases step_cases s with ⟨h, _⟩ | ⟨_, h, _⟩ | ⟨_, _, _, h, hd, heq⟩ | ⟨_, _, _, h, hd, _⟩
  · simp [hinputs] at h
  · simp [hinputs] at h
  · rw [hinputs] at h; cases h
    rw [hdecode] at hd; cases hd
    exact heq
  · rw [hinputs] at h; cases h
    rw [hdecode] at hd; cases hd

/-- Settles O52: the parameters of `Config.atReset` are legal, and construction with legal ones meets the invariant. -/
theorem resetMeetsInvariant : Obligations.ResetMeetsInvariant :=
  ⟨State.construct_inv (by decide), fun _ => State.construct_inv⟩

end Sys2Proof.Machine

/-! The statements of 10_state.md. A command made of writes is a list of steps; each step first updates the block, then
sends at most one write (`CmdStep.prep`, `CmdStep.payload`). `exec_eq_runSteps` ties the lists to the model's commands.
What a run can do to the block, to the trace and to the devices is then proved for one step and carried along the list. -/

namespace Sys2Proof.Machine

/-! ### The commands that write, as lists of steps -/

/-- One step of a command, with at most one write. -/
inductive CmdStep where
  /-- The write of a register that no block state shadows. -/
  | write (reg v : Byte)
  /-- `setChannel` (R110). -/
  | channel (c : Channel) (st : ChanState)
  /-- `writeMode` (R90). -/
  | mode (clr : Bool)
  /-- `switchMode` (R131 to R133). -/
  | switch (g : GroupMode)
  /-- `resetByLine` (R172). -/
  | lineReset

/-- What the step does before its write. -/
def CmdStep.prep : CmdStep → State → State
  | .write _ _, s => s
  | .channel c st, s => s.setMirror (regIndex c) (insertField (s.mirrorByte (regIndex c)) c st)
  | .mode _, s => s
  | .switch g, s => s.setGroupMode g
  | .lineReset, s => (linePulse s).clearMirror.setGroupMode .pwmDutyOnly

/-- The register and the byte the step writes, if it writes. -/
def CmdStep.payload : CmdStep → State → Option (Byte × Byte)
  | .write reg v, _ => some (reg, v)
  | .channel c st, s => some (ledoutReg (regIndex c), insertField (s.mirrorByte (regIndex c)) c st)
  | .mode clr, s => some (modeReg, modeByte clr s.block.groupMode)
  | .switch g, s => if s.block.groupMode = g then none else some (modeReg, modeByte false g)
  | .lineReset, _ => some (enableReg, enableByte)

/-- The step, whatever its write is answered. -/
def CmdStep.run (op : CmdStep) (s : State) : Flow :=
  match op.payload s with
  | none => .cont (op.prep s)
  | some (reg, v) => memWrite reg v (op.prep s)

/-- The state after the step when its write succeeds. -/
def CmdStep.done (op : CmdStep) (s : State) : State :=
  match op.payload s with
  | none => op.prep s
  | some (reg, v) => wrote reg v (op.prep s)

/-- The steps in order, until a write fails (R191). -/
def runSteps : List CmdStep → State → Flow
  | [], s => .cont s
  | op :: ops, s => (op.run s).andThen (runSteps ops)

/-- The state after the steps when every write succeeds. -/
def doneSteps : List CmdStep → State → State
  | [], s => s
  | op :: ops, s => doneSteps ops (op.done s)

/-- The steps of RESET in its two forms (R171). -/
def resetSteps (hasLine : Bool) : List CmdStep :=
  if hasLine then [.lineReset] else allChannels.map (.channel · .off) ++ [.write enableReg enableByte]

/-- The steps of a command; none for the three that read, report or broadcast. -/
def commandSteps (hasLine : Bool) : Instr → Option (List CmdStep)
  | .enable => some [.write enableReg enableByte]
  | .reset => some (resetSteps hasLine)
  | .setstate c st => some [.channel c st]
  | .setduty c d => some [.write (pwmReg c) d]
  | .assigngrp c => some [.write (pwmReg c) maxDuty, .channel c .group]
  | .grpduty d => some [.switch .pwmDutyOnly, .write grpDutyReg d]
  | .grpblink f d => some [.write grpDutyReg d, .switch .blink, .write grpFreqReg f]
  | .clrerr => some [.mode true, .mode false]
  | .turnoff c => some [.channel c .off]
  | .turnon c => some [.channel c .on]
  | .setpwm c => some [.channel c .pwm]
  | .chkerr => none
  | .descerr => none
  | .busreset => none

theorem commandSteps_eq_none {hasLine : Bool} {i : Instr} (h : commandSteps hasLine i = none) :
    i = .chkerr ∨ i = .descerr ∨ i = .busreset := by
  cases i <;> simp_all [commandSteps]

theorem Flow.andThen_assoc (f : Flow) (k l : State → Flow) :
    (f.andThen k).andThen l = f.andThen fun s => (k s).andThen l := by
  cases f <;> rfl

theorem Flow.andThen_cont_right (f : Flow) : f.andThen .cont = f := by cases f <;> rfl

theorem runSteps_nil : runSteps [] = .cont := rfl

theorem runSteps_cons (op : CmdStep) (ops : List CmdStep) :
    runSteps (op :: ops) = fun s => (op.run s).andThen (runSteps ops) := rfl

theorem runSteps_singleton (op : CmdStep) : runSteps [op] = op.run :=
  funext fun s => Flow.andThen_cont_right (op.run s)

theorem runSteps_append (ops ops' : List CmdStep) :
    runSteps (ops ++ ops') = fun s => (runSteps ops s).andThen (runSteps ops') := by
  induction ops with
  | nil => rfl
  | cons op ops ih => simp only [List.cons_append, runSteps_cons, ih, Flow.andThen_assoc]

theorem CmdStep.run_write (reg v : Byte) : (CmdStep.write reg v).run = memWrite reg v := rfl
theorem CmdStep.run_channel (c : Channel) (st : ChanState) : (CmdStep.channel c st).run = setChannel c st := rfl

theorem State.setGroupMode_self {s : State} {g : GroupMode} (h : s.block.groupMode = g) : s.setGroupMode g = s := by
  subst h; rfl

theorem CmdStep.run_switch (g : GroupMode) : (CmdStep.switch g).run = switchMode g := by
  funext s
  by_cases h : s.block.groupMode = g
  · rw [switchMode_same h]; simp [CmdStep.run, CmdStep.payload, CmdStep.prep, h, State.setGroupMode_self]
  · rw [switchMode_other h]; simp [CmdStep.run, CmdStep.payload, CmdStep.prep, h]

/-- Switching channels off in order is one step for each (R173). -/
theorem runSteps_map_off (cs : List Channel) : runSteps (cs.map (.channel · .off)) = offAll cs := by
  induction cs with
  | nil => rfl
  | cons c cs ih => simp only [List.map_cons, runSteps_cons, ih, CmdStep.run_channel]; rfl

theorem runSteps_resetSteps (hasLine : Bool) :
    runSteps (resetSteps hasLine) = fun s => if hasLine then resetByLine s else resetByWrites s := by
  cases hasLine with
  | true => exact runSteps_singleton _
  | false => exact (runSteps_append _ _).trans (by rw [runSteps_map_off, runSteps_singleton]; rfl)

/-- A command made of writes is its steps, then the response OK (R11, R191). -/
theorem exec_eq_runSteps {i : Instr} {s : State} {ops : List CmdStep}
    (h : commandSteps s.params.hasResetLine i = some ops) :
    exec i s = .next ((runSteps ops s.beginCommand).andThen (returnOk 0#6 0#16)).state := by
  cases i with
  | chkerr => cases h
  | descerr => cases h
  | busreset => cases h
  | reset => cases h; rw [runSteps_resetSteps]; rfl
  | enable => cases h; rw [runSteps_singleton]; rfl
  | setstate c st => cases h; rw [runSteps_singleton]; rfl
  | setduty c d => cases h; rw [runSteps_singleton]; rfl
  | assigngrp c => cases h; rw [runSteps_cons, runSteps_singleton]; rfl
  | grpduty d => cases h; rw [runSteps_cons, runSteps_singleton, CmdStep.run_switch]; rfl
  | grpblink f d =>
    cases h
    simp only [exec, execGrpblink, command_eq, runSteps_cons, runSteps_nil, Flow.andThen_cont_right,
      CmdStep.run_switch, CmdStep.run_write, Flow.andThen_assoc]
  | clrerr => cases h; rw [runSteps_cons, runSteps_singleton]; rfl
  | turnoff c => cases h; rw [runSteps_singleton]; rfl
  | turnon c => cases h; rw [runSteps_singleton]; rfl
  | setpwm c => cases h; rw [runSteps_singleton]; rfl

/-! ### What one step can do -/

theorem linePulse_block (s : State) : (linePulse s).block = { s.block with resetLine := .active } := rfl

@[simp] theorem CmdStep.prep_params (op : CmdStep) (s : State) : (op.prep s).params = s.params := by cases op <;> rfl

theorem CmdStep.prep_accounts {s0 s : State} (op : CmdStep) (h : s0.Accounts s) : s0.Accounts (op.prep s) := by
  have kept := accounts_kept s0
  cases op with
  | write reg v => exact h
  | channel c st => exact kept.setMirror _ _ h
  | mode clr => exact h
  | switch g => exact kept.setGroupMode g h
  | lineReset => exact kept.setGroupMode _ (kept.clearMirror (kept.linePulse h))

@[simp] theorem CmdStep.transactions_prep (op : CmdStep) (s : State) :
    transactions (op.prep s).trace = transactions s.trace := by
  cases op with
  | lineReset => exact transactions_linePulse s
  | _ => rfl

/-- Before its write a step emits no transaction (R12). -/
theorem CmdStep.mem_prep_trace {op : CmdStep} {s : State} {e : Event} (h : e ∈ (op.prep s).trace) :
    e ∈ s.trace ∨ e.isTransaction = false := by
  cases op with
  | lineReset =>
    simp only [CmdStep.prep, linePulse, lineSet_active, lineSet_inactive, delay_eq, State.setGroupMode_trace,
      State.clearMirror_trace, State.emit_trace, State.setLine_trace, State.lineResetDevice_trace, List.mem_append,
      List.mem_singleton] at h
    rcases h with ((h | rfl) | rfl) | rfl
    · exact .inl h
    all_goals exact .inr rfl
  | _ => exact .inl h

/-- A step is its preparation alone, or its preparation and one write. -/
theorem CmdStep.run_done_eq (op : CmdStep) (s : State) :
    (op.run s = .cont (op.prep s) ∧ op.done s = op.prep s) ∨
    ∃ reg v, op.payload s = some (reg, v) ∧ op.run s = memWrite reg v (op.prep s) ∧
      op.done s = wrote reg v (op.prep s) := by
  unfold CmdStep.run CmdStep.done
  cases op.payload s with
  | none => exact .inl ⟨rfl, rfl⟩
  | some w => exact .inr ⟨w.1, w.2, rfl, rfl, rfl⟩

/-! ### A write, whatever it is answered -/

theorem memWrite_state (reg v : Byte) (s : State) :
    (memWrite reg v s).state.block = s.block ∧ (memWrite reg v s).state.params = s.params ∧
    (memWrite reg v s).state.trace = s.trace ++ [devWrite s reg v] := by
  rcases memWrite_cases reg v s with ⟨_, heq⟩ | ⟨reached, _, heq⟩
  · rw [heq]; exact ⟨rfl, rfl, rfl⟩
  · rw [heq]; cases reached <;> exact ⟨rfl, rfl, rfl⟩

/-- The block and the parameters after a step do not depend on the answer to its write. -/
theorem CmdStep.run_block_params (op : CmdStep) (s : State) :
    (op.run s).state.block = (op.prep s).block ∧ (op.run s).state.params = s.params := by
  rcases op.run_done_eq s with ⟨hrun, _⟩ | ⟨reg, v, _, hrun, _⟩
  · rw [hrun]; exact ⟨rfl, op.prep_params s⟩
  · obtain ⟨hblock, hparams, _⟩ := memWrite_state reg v (op.prep s)
    rw [hrun]; exact ⟨hblock, hparams.trans (op.prep_params s)⟩

/-- What every step of a list keeps, the list keeps, wherever a failed write ends it. -/
theorem runSteps_keeps {P : State → Prop} {ops : List CmdStep} {s : State}
    (hstep : ∀ op ∈ ops, ∀ u, P u → P (op.run u).state) (hs : P s) : P (runSteps ops s).state := by
  induction ops generalizing s with
  | nil => exact hs
  | cons op ops ih =>
    have hop := hstep op List.mem_cons_self s hs
    simp only [runSteps_cons]
    cases hrun : op.run s with
    | cont u => rw [hrun] at hop; exact ih (fun o ho => hstep o (List.mem_cons_of_mem op ho)) hop
    | ended u => rw [hrun] at hop; exact hop

/-- What a list of steps changed, one of its steps changes. -/
theorem exists_step_of_ne {α : Type} {f : State → α} {ops : List CmdStep} {s : State}
    (h : f (runSteps ops s).state ≠ f s) : ∃ op ∈ ops, ∃ u, f (op.run u).state ≠ f u := by
  by_contra hnone
  push Not at hnone
  exact h (runSteps_keeps (P := fun u => f u = f s) (fun op hop u hu => (hnone op hop u).trans hu) rfl)

/-- The response changes neither the block nor the parameters nor the trace. -/
theorem andThen_returnOk_state (f : Flow) (k : BitVec 6) (result : Mask16) :
    (f.andThen (returnOk k result)).state.block = f.state.block ∧
    (f.andThen (returnOk k result)).state.params = f.state.params ∧
    (f.andThen (returnOk k result)).state.trace = f.state.trace := by
  cases f <;> exact ⟨rfl, rfl, rfl⟩

/-- The block, the parameters and the trace that a command made of writes leaves are those its steps leave. -/
theorem exec_state_of_steps {i : Instr} {s t : State} {ops : List CmdStep}
    (h : commandSteps s.params.hasResetLine i = some ops) (hx : exec i s = .next t) :
    t.block = (runSteps ops s.beginCommand).state.block ∧ t.params = (runSteps ops s.beginCommand).state.params ∧
    t.trace = (runSteps ops s.beginCommand).state.trace := by
  rw [exec_eq_runSteps h] at hx
  cases hx
  exact andThen_returnOk_state _ _ _

/-! ### A command whose writes succeed -/

/-- The next answers of a command are those of its start, from the count of transactions on. -/
theorem State.Accounts.answerAt {s0 s : State} (h : s0.Accounts s) (k : Nat) :
    s.answerAt k = s0.answerAt (transactions s.trace + k) := by
  simp only [State.answerAt, h.answers, h.issued, List.getElem?_drop, Nat.add_assoc]

theorem State.Accounts.wrote {s0 s : State} (h : s0.Accounts s) (reg v : Byte) : s0.Accounts (wrote reg v s) :=
  (accounts_kept s0).storeDevice _ _ _ ((accounts_kept s0).issueWrite _ _ _ h)

theorem CmdStep.done_accounts {s0 s : State} (op : CmdStep) (h : s0.Accounts s) : s0.Accounts (op.done s) := by
  rcases op.run_done_eq s with ⟨_, hdone⟩ | ⟨reg, v, _, _, hdone⟩
  · rw [hdone]; exact op.prep_accounts h
  · rw [hdone]; exact (op.prep_accounts h).wrote reg v

theorem transactions_wrote (reg v : Byte) (s : State) :
    transactions (wrote reg v s).trace = transactions s.trace + 1 := by simp [wrote]

theorem CmdStep.transactions_done_le (op : CmdStep) (s : State) :
    transactions (op.done s).trace ≤ transactions s.trace + 1 := by
  rcases op.run_done_eq s with ⟨_, hdone⟩ | ⟨reg, v, _, _, hdone⟩
  · rw [hdone, op.transactions_prep]; exact Nat.le_succ _
  · rw [hdone, transactions_wrote, op.transactions_prep]

/-- All a step can do: its write succeeds, or the command ends with that write the last transaction. -/
theorem CmdStep.run_cases {s0 s : State} (op : CmdStep) (h : s0.Accounts s) :
    op.run s = .cont (op.done s) ∨
    ∃ t, op.run s = .ended t ∧ (s0.answerAt (transactions s.trace)).succeeded = false ∧
      transactions t.trace = transactions s.trace + 1 := by
  rcases op.run_done_eq s with ⟨hrun, hdone⟩ | ⟨reg, v, _, hrun, hdone⟩
  · exact .inl (by rw [hrun, hdone])
  · rcases memWrite_cases reg v (op.prep s) with ⟨_, heq⟩ | ⟨reached, hfail, heq⟩
    · exact .inl (by rw [hrun, hdone, heq])
    · have hanswer := (op.prep_accounts h).answerAt 0
      have htrace := (memWrite_state reg v (op.prep s)).2.2
      rw [heq, Flow.state_ended] at htrace
      rw [op.transactions_prep, Nat.add_zero, hfail] at hanswer
      exact .inr ⟨_, hrun.trans heq, by rw [← hanswer]; rfl, by rw [htrace]; simp [devWrite]⟩

/-- All a list of steps can do: every write succeeds, or a transaction of the list failed and the command ended. -/
theorem runSteps_cases {s0 s : State} (ops : List CmdStep) (h : s0.Accounts s) :
    runSteps ops s = .cont (doneSteps ops s) ∨
    ∃ t k, runSteps ops s = .ended t ∧ (s0.answerAt k).succeeded = false ∧ k < transactions t.trace ∧
      k < transactions s.trace + ops.length := by
  induction ops generalizing s with
  | nil => exact .inl rfl
  | cons op ops ih =>
    simp only [runSteps_cons, List.length_cons]
    rcases op.run_cases h with hrun | ⟨t, hrun, hfail, htrace⟩
    · rw [hrun]
      rcases ih (op.done_accounts h) with hall | ⟨t, k, hrest, hfail, hlast, hcount⟩
      · exact .inl hall
      · have := op.transactions_done_le s
        exact .inr ⟨t, k, hrest, hfail, hlast, by omega⟩
    · exact .inr ⟨t, transactions s.trace, by rw [hrun]; rfl, hfail, by omega, by omega⟩

section Success

variable {i : Instr} {s t : State} {ops : List CmdStep} (h : commandSteps s.params.hasResetLine i = some ops)

include h

/-- If the environment answers every step with success, the command is done. -/
theorem exec_eq_done (hs : s.succeeds ops.length) :
    exec i s = .next ((doneSteps ops s.beginCommand).respond (okWord 0#6 0#16)) := by
  rw [exec_eq_runSteps h]
  rcases runSteps_cases ops (State.Accounts.beginCommand s) with hall | ⟨_, k, _, hfail, _, hcount⟩
  · rw [hall]; rfl
  · rw [hs k (by simpa using hcount)] at hfail; cases hfail

/-- If no transaction that the command issued failed, the command is done. -/
theorem eq_done_of_exec (hx : exec i s = .next t)
    (hs : ∀ k, k < transactions t.trace → (s.answerAt k).succeeded = true) :
    t = (doneSteps ops s.beginCommand).respond (okWord 0#6 0#16) := by
  rw [exec_eq_runSteps h] at hx
  cases hx
  rcases runSteps_cases ops (State.Accounts.beginCommand s) with hall | ⟨_, k, hended, hfail, hlast, _⟩
  · rw [hall]; rfl
  · rw [hended] at hs
    rw [hs k hlast] at hfail; cases hfail

end Success

theorem doneSteps_keeps {P : State → Prop} {ops : List CmdStep} {s : State}
    (hstep : ∀ op ∈ ops, ∀ u, P u → P (op.done u)) (hs : P s) : P (doneSteps ops s) := by
  induction ops generalizing s with
  | nil => exact hs
  | cons op ops ih =>
    exact ih (fun o ho => hstep o (List.mem_cons_of_mem op ho)) (hstep op List.mem_cons_self s hs)

theorem doneSteps_accounts {s0 s : State} (ops : List CmdStep) (h : s0.Accounts s) : s0.Accounts (doneSteps ops s) :=
  doneSteps_keeps (fun op _ _ hu => op.done_accounts hu) h

/-- The account of a command whose writes all succeeded (R88, R12). -/
theorem ran_doneSteps (ops : List CmdStep) (s : State) :
    Ran s ((doneSteps ops s.beginCommand).respond (okWord 0#6 0#16)) (doneSteps ops s.beginCommand).block
      (doneSteps ops s.beginCommand).trace 0x000000#24 := by
  obtain ⟨hanswers, hissued, hinputs, hparams⟩ := doneSteps_accounts ops (State.Accounts.beginCommand s)
  exact ⟨rfl, rfl, congrArg some okWord_zero, hparams, hinputs, hanswers, hissued⟩

/-! ### Which steps a command has -/

/-- A register of the map that neither the mirror nor the cached mode stands for: ENABLE_REG, PWM, GRPDUTY_REG and
GRPFREQ_REG (R54). -/
def PlainReg (reg : Byte) : Prop := reg.toNat ≤ 0x13 ∧ reg ≠ modeReg

theorem plainReg_pwmReg (c : Channel) : PlainReg (pwmReg c) := by
  unfold PlainReg; revert c; decide

theorem PlainReg.ne_ledoutReg {reg : Byte} (h : PlainReg reg) (j : Fin 4) : reg ≠ ledoutReg j := by
  have hj : 0x14 ≤ (ledoutReg j).toNat := by revert j; decide
  rintro rfl
  have := h.1
  omega

theorem plainReg_enableReg : PlainReg enableReg := ⟨by decide, by decide⟩
theorem plainReg_grpDutyReg : PlainReg grpDutyReg := ⟨by decide, by decide⟩
theorem plainReg_grpFreqReg : PlainReg grpFreqReg := ⟨by decide, by decide⟩

/-- The instructions that set a channel's state (R110 to R114, R173). -/
def SetsChannels (i : Instr) : Prop :=
  i = .reset ∨ ∃ c, (∃ st, i = .setstate c st) ∨ i = .turnoff c ∨ i = .turnon c ∨ i = .setpwm c ∨ i = .assigngrp c

/-- What a step of the instruction `i` is, by the kind of the step. -/
def CmdStep.Of (hasLine : Bool) (i : Instr) : CmdStep → Prop
  | .write reg _ => PlainReg reg
  | .channel _ _ => SetsChannels i
  | .mode _ => i = .clrerr
  | .switch _ => (∃ d, i = .grpduty d) ∨ ∃ f d, i = .grpblink f d
  | .lineReset => i = .reset ∧ hasLine = true

theorem of_mem_resetSteps {hasLine : Bool} {op : CmdStep} (h : op ∈ resetSteps hasLine) : op.Of hasLine .reset := by
  cases hasLine with
  | true => obtain rfl := List.mem_singleton.mp h; exact ⟨rfl, rfl⟩
  | false =>
    rcases List.mem_append.mp h with hoff | hlast
    · obtain ⟨c, _, rfl⟩ := List.mem_map.mp hoff; exact Or.inl rfl
    · obtain rfl := List.mem_singleton.mp hlast; exact plainReg_enableReg

theorem of_mem_commandSteps {hasLine : Bool} {i : Instr} {ops : List CmdStep} (h : commandSteps hasLine i = some ops) :
    ∀ op ∈ ops, op.Of hasLine i := by
  cases i with
  | reset => cases h; exact fun _ => of_mem_resetSteps
  | enable => cases h; simp [CmdStep.Of, plainReg_enableReg]
  | setduty c d => cases h; simp [CmdStep.Of, plainReg_pwmReg]
  | assigngrp c => cases h; simp [CmdStep.Of, plainReg_pwmReg, SetsChannels]
  | grpduty d => cases h; simp [CmdStep.Of, plainReg_grpDutyReg]
  | grpblink f d => cases h; simp [CmdStep.Of, plainReg_grpDutyReg, plainReg_grpFreqReg]
  | clrerr => cases h; simp [CmdStep.Of]
  | setstate c st => cases h; simp [CmdStep.Of, SetsChannels]
  | turnoff c => cases h; simp [CmdStep.Of, SetsChannels]
  | turnon c => cases h; simp [CmdStep.Of, SetsChannels]
  | setpwm c => cases h; simp [CmdStep.Of, SetsChannels]
  | chkerr => cases h
  | descerr => cases h
  | busreset => cases h

/-! ### What the steps do to the devices -/

/-- Before its write, a step that is not the line reset leaves every register and the trace. -/
theorem CmdStep.prep_device {op : CmdStep} {s0 s : State} (hline : op ≠ .lineReset)
    (h : DeviceFollows s0 s s.trace) : DeviceFollows s0 (op.prep s) (op.prep s).trace := by
  cases op with
  | lineReset => exact absurd rfl hline
  | _ => exact h

theorem CmdStep.done_device {op : CmdStep} {s0 s : State} (hline : op ≠ .lineReset)
    (h : DeviceFollows s0 s s.trace) : DeviceFollows s0 (op.done s) (op.done s).trace := by
  rcases op.run_done_eq s with ⟨_, hdone⟩ | ⟨reg, v, _, _, hdone⟩
  · rw [hdone]; exact CmdStep.prep_device hline h
  · rw [hdone]; exact (CmdStep.prep_device hline h).wrote reg v

theorem DeviceFollows.beginCommand (s : State) : DeviceFollows s s.beginCommand [] := fun _ _ _ => rfl

theorem doneSteps_device {ops : List CmdStep} (s : State) (hline : .lineReset ∉ ops) :
    DeviceFollows s (doneSteps ops s.beginCommand) (doneSteps ops s.beginCommand).trace :=
  doneSteps_keeps (P := fun u => DeviceFollows s u u.trace)
    (fun _ hop _ hu => CmdStep.done_device (fun heq => hline (heq ▸ hop)) hu) (DeviceFollows.beginCommand s)

@[simp] theorem afterRead_block (reg : Byte) (s : State) : (afterRead reg s).block = s.block := rfl
@[simp] theorem afterRead_params (reg : Byte) (s : State) : (afterRead reg s).params = s.params := rfl

/-- A read changes no register (R71). -/
theorem DeviceFollows.afterRead {s0 s : State} {es : List Event} (h : DeviceFollows s0 s es) (reg : Byte) :
    DeviceFollows s0 (afterRead reg s) (es ++ [devRead s reg]) := by
  intro d r hf
  rw [storedValue_snoc]
  exact h d r fun hr => by simpa [devRead, clearsFlags] using hf hr

/-- A register other than the error flags after a write to the own device. -/
theorem readDevice_wrote {q : Byte} (hq : isFlagReg q = false) (reg v : Byte) (s : State) :
    (wrote reg v s).readDevice s.params.devAddr q = if reg = q then v else s.readDevice s.params.devAddr q := by
  simp [wrote, State.readDevice_storeDevice, hq]

/-! ### Synced (R34) -/

theorem isFlagReg_ledoutReg (i : Fin 4) : isFlagReg (ledoutReg i) = false := by revert i; decide
theorem isFlagReg_modeReg : isFlagReg modeReg = false := by decide
theorem ledoutReg_inj {i j : Fin 4} : ledoutReg i = ledoutReg j ↔ i = j := by revert i j; decide
theorem ledoutReg_ne_modeReg (i : Fin 4) : ledoutReg i ≠ modeReg := by revert i; decide

theorem mirrorByte_wrote (reg v : Byte) (s : State) (i : Fin 4) : (wrote reg v s).mirrorByte i = s.mirrorByte i := rfl

theorem ledoutSynced_wrote {reg : Byte} {s : State} (h : s.LedoutSynced) (hreg : ∀ i, reg ≠ ledoutReg i) (v : Byte) :
    (wrote reg v s).LedoutSynced := by
  intro i
  exact (readDevice_wrote (isFlagReg_ledoutReg i) reg v s).trans ((if_neg (hreg i)).trans (h i))

theorem modeSynced_wrote {reg : Byte} {s : State} (h : s.ModeSynced) (hreg : reg ≠ modeReg) (v : Byte) :
    (wrote reg v s).ModeSynced := by
  have hsame := (readDevice_wrote isFlagReg_modeReg reg v s).trans (if_neg hreg)
  exact (congrArg (BitVec.getLsbD · 5) hsame).trans h

theorem synced_wrote_plain {reg : Byte} {s : State} (h : s.Synced) (hreg : PlainReg reg) (v : Byte) :
    (wrote reg v s).Synced :=
  ⟨ledoutSynced_wrote h.1 hreg.ne_ledoutReg v, modeSynced_wrote h.2 hreg.2 v⟩

/-- Bit 5 of the mode byte is the mode (R56, R90). -/
theorem modeByte_bit (clr : Bool) (g : GroupMode) : (modeByte clr g).getLsbD 5 = decide (g = .blink) := by
  cases clr <;> cases g <;> decide

/-- The MODE_REG write with the cached mode makes the mode bit agree, and touches no LEDOUT register. -/
theorem synced_wrote_mode {s : State} (h : s.LedoutSynced) (clr : Bool) :
    (wrote modeReg (modeByte clr s.block.groupMode) s).Synced := by
  refine ⟨ledoutSynced_wrote h (fun i => (ledoutReg_ne_modeReg i).symm) _, ?_⟩
  exact (congrArg (BitVec.getLsbD · 5) ((readDevice_wrote isFlagReg_modeReg _ _ s).trans (if_pos rfl))).trans
    (modeByte_bit clr s.block.groupMode)

/-- The byte written to LEDOUT is the byte put in the mirror (R110). -/
theorem ledoutSynced_wrote_mirror {s : State} (h : s.LedoutSynced) (j : Fin 4) (v : Byte) :
    (wrote (ledoutReg j) v (s.setMirror j v)).LedoutSynced := by
  intro i
  refine (readDevice_wrote (isFlagReg_ledoutReg i) _ _ (s.setMirror j v)).trans ?_
  rw [mirrorByte_wrote, State.mirrorByte_setMirror]
  exact if_congr ledoutReg_inj rfl (h i)

/-- The line reset brings device and block to the same values, whatever both were (R172). -/
theorem synced_done_lineReset (s : State) : (CmdStep.lineReset.done s).Synced := by
  have hdefault (r : Byte) : (CmdStep.lineReset.prep s).readDevice s.params.devAddr r =
      defaultByte s.params.devAddr r :=
    (State.readDevice_lineResetDevice _ s.params.devAddr r).trans (if_pos rfl)
  have hprep : (CmdStep.lineReset.prep s).Synced := by
    refine ⟨fun i => ?_, ?_⟩
    · refine (hdefault _).trans ((defaultByte_ledoutReg _ i).trans ?_)
      exact ((linePulse s).mirrorByte_clearMirror i).symm
    · exact (congrArg (BitVec.getLsbD · 5) (hdefault modeReg)).trans (defaultByte_modeReg _)
  exact synced_wrote_plain hprep plainReg_enableReg _

/-- A step of a command whose write succeeds keeps `Synced`. -/
theorem CmdStep.done_synced {op : CmdStep} {hasLine : Bool} {i : Instr} {s : State} (hop : op.Of hasLine i)
    (h : s.Synced) : (op.done s).Synced := by
  cases op with
  | write reg v => exact synced_wrote_plain h hop v
  | channel c st =>
    refine ⟨ledoutSynced_wrote_mirror h.1 _ _, ?_⟩
    exact modeSynced_wrote (s := s.setMirror _ _) h.2 (ledoutReg_ne_modeReg _) _
  | mode clr => exact synced_wrote_mode h.1 clr
  | switch g =>
    by_cases hg : s.block.groupMode = g
    · simpa [CmdStep.done, CmdStep.payload, CmdStep.prep, hg, State.setGroupMode_self] using h
    · simpa [CmdStep.done, CmdStep.payload, CmdStep.prep, hg] using
        synced_wrote_mode (s := s.setGroupMode g) h.1 false
  | lineReset => exact synced_done_lineReset s

/-! ### The statements -/

/-- Settles O53: each step of a command keeps `Synced` when its write succeeds; CHKERR and DESCERR write nothing. -/
theorem successfulCommandKeepsSynced : Obligations.SuccessfulCommandKeepsSynced := by
  intro i s t hbus hsync hx hs
  cases hops : commandSteps s.params.hasResetLine i with
  | some ops =>
    rw [eq_done_of_exec hops hx hs]
    exact doneSteps_keeps (P := State.Synced) (s := s.beginCommand)
      (fun op hop u hu => CmdStep.done_synced (of_mem_commandSteps hops op hop) hu) hsync
  | none =>
    rcases commandSteps_eq_none hops with rfl | rfl | rfl
    · cases hx; exact hsync
    · cases hx; exact hsync
    · exact absurd rfl hbus

/-- Settles O49: with no failed write the command is its steps done, and each step's write is in the trace. -/
theorem deviceFollowsTrace : Obligations.DeviceFollowsTrace := by
  intro i s t hx hbus hline hs
  cases hops : commandSteps s.params.hasResetLine i with
  | some ops =>
    rw [eq_done_of_exec hops hx hs]
    refine doneSteps_device s fun hmem => ?_
    obtain ⟨hreset, hfitted⟩ := of_mem_commandSteps hops _ hmem
    rw [hline hreset] at hfitted; cases hfitted
  | none =>
    rcases commandSteps_eq_none hops with rfl | rfl | rfl
    · cases hx
      exact ((DeviceFollows.beginCommand s).afterRead eflagLoReg).afterRead eflagHiReg
    · cases hx; exact DeviceFollows.beginCommand s
    · exact absurd rfl hbus

/-- Settles O54: RESET with a line is the one step that makes device and block agree. -/
theorem resetByLineRestoresSynced : Obligations.ResetByLineRestoresSynced := by
  intro s t hline hs hx
  have hops : commandSteps s.params.hasResetLine .reset = some [.lineReset] := by rw [hline]; rfl
  rw [exec_eq_done hops hs] at hx
  cases hx
  exact synced_done_lineReset s.beginCommand

/-- What a step changes of the block, by the kind of the step: only the mirror, the mode and the line, and the line
only to Active. -/
theorem CmdStep.run_changes (op : CmdStep) (u : State) :
    ((op.run u).state.block.mirror ≠ u.block.mirror → (∃ c st, op = .channel c st) ∨ op = .lineReset) ∧
    ((op.run u).state.block.groupMode ≠ u.block.groupMode → (∃ g, op = .switch g) ∨ op = .lineReset) ∧
    (op.run u).state.block.errStatus = u.block.errStatus ∧ (op.run u).state.block.errMask = u.block.errMask ∧
    ((op.run u).state.block.resetLine ≠ u.block.resetLine → op = .lineReset) := by
  rw [(op.run_block_params u).1]
  cases op <;> simp [CmdStep.prep, linePulse_block]

/-- A step leaves the line as it is or Active. -/
theorem CmdStep.run_resetLine (op : CmdStep) (u : State) :
    (op.run u).state.block.resetLine = u.block.resetLine ∨ (op.run u).state.block.resetLine = .active := by
  rw [(op.run_block_params u).1]
  cases op <;> simp [CmdStep.prep, linePulse_block]

/-- BUSRESET leaves the block and the parameters (R174). -/
theorem execBusreset_block_params {s t : State} (hx : execBusreset s = .next t) :
    t.block = s.block ∧ t.params = s.params := by
  rw [execBusreset, command_eq] at hx
  cases hx
  rcases busWrite_cases swrstDev swrstReg swrstVal State.busResetDevices s.beginCommand with
    ⟨_, heq⟩ | ⟨reached, _, heq⟩
  · rw [heq]; exact ⟨rfl, rfl⟩
  · rw [heq]; cases reached <;> exact ⟨rfl, rfl⟩

/-- Settles O42: what the run of a command changed, one of its steps changes, and the kind of that step names the
command. -/
theorem writersOfBlockState : Obligations.WritersOfBlockState := by
  intro i s t hx
  cases hops : commandSteps s.params.hasResetLine i with
  | none =>
    rcases commandSteps_eq_none hops with rfl | rfl | rfl
    · cases hx; simp
    · cases hx; simp
    · obtain ⟨hblock, hparams⟩ := execBusreset_block_params hx
      simp [hblock, hparams]
  | some ops =>
    obtain ⟨hblock, hparams, _⟩ := exec_state_of_steps hops hx
    have hof := of_mem_commandSteps hops
    rw [hblock, hparams]
    refine ⟨?_, fun hne => ?_, fun hne => ?_, fun hne => ?_, fun hne => ?_⟩
    · exact runSteps_keeps (P := fun u => u.params = s.params)
        (fun op _ u hu => (op.run_block_params u).2.trans hu) rfl
    · obtain ⟨op, hop, u, hu⟩ := exists_step_of_ne (f := fun u => u.block.mirror) (s := s.beginCommand) hne
      obtain ⟨hmirror, _⟩ := op.run_changes u
      rcases hmirror hu with ⟨c, st, rfl⟩ | rfl
      · exact hof _ hop
      · exact .inl (hof _ hop).1
    · obtain ⟨op, hop, u, hu⟩ := exists_step_of_ne (f := fun u => u.block.groupMode) (s := s.beginCommand) hne
      obtain ⟨_, hmode, _⟩ := op.run_changes u
      rcases hmode hu with ⟨g, rfl⟩ | rfl
      · exact (hof _ hop).elim .inl fun hblink => .inr (.inl hblink)
      · exact .inr (.inr (hof _ hop))
    · have herr := runSteps_keeps (ops := ops) (s := s.beginCommand)
        (P := fun u => u.block.errStatus = s.block.errStatus ∧ u.block.errMask = s.block.errMask)
        (fun op _ u ⟨hst, hmask⟩ => by
          obtain ⟨_, _, hst', hmask', _⟩ := op.run_changes u
          exact ⟨hst'.trans hst, hmask'.trans hmask⟩) ⟨rfl, rfl⟩
      exact (hne.elim (· herr.1) (· herr.2)).elim
    · obtain ⟨op, hop, u, hu⟩ := exists_step_of_ne (f := fun u => u.block.resetLine) (s := s.beginCommand) hne
      have hactive := runSteps_keeps (ops := ops) (s := s.beginCommand)
        (P := fun u => u.block.resetLine = s.block.resetLine ∨ u.block.resetLine = .active)
        (fun op _ u hu => by
          rcases op.run_resetLine u with hsame | hset
          · rw [hsame]; exact hu
          · exact .inr hset) (.inl rfl)
      obtain ⟨_, _, _, _, honly⟩ := op.run_changes u
      obtain rfl := honly hu
      obtain ⟨hreset, hline⟩ := hof _ hop
      exact ⟨hreset, hline, hactive.resolve_left hne⟩

/-- A transaction of `e` is a write to the device at `own` inside the map (R54). -/
def Event.OwnWrite (own : DevAddr) (e : Event) : Prop :=
  e.isTransaction = true → ∃ reg v, e = .write own reg v ∧ reg.toNat ≤ 0x17

/-- What a step of a command writes, it writes inside the map (R54). -/
theorem CmdStep.payload_le {op : CmdStep} {hasLine : Bool} {i : Instr} {s : State} {reg v : Byte}
    (hop : op.Of hasLine i) (h : op.payload s = some (reg, v)) : reg.toNat ≤ 0x17 := by
  cases op with
  | write reg v => cases h; exact hop.1.trans (by decide)
  | channel c st =>
    have hle : ∀ j, (ledoutReg j).toNat ≤ 0x17 := by decide
    cases h; exact hle _
  | mode clr => cases h; decide
  | switch g =>
    simp only [CmdStep.payload] at h
    split at h <;> cases h
    decide
  | lineReset => cases h; decide

/-- Every transaction of a step is a write to the own device inside the map. -/
theorem CmdStep.run_ownWrite {op : CmdStep} {hasLine : Bool} {i : Instr} {s : State} (hop : op.Of hasLine i)
    (h : ∀ e ∈ s.trace, e.OwnWrite s.params.devAddr) : ∀ e ∈ (op.run s).state.trace, e.OwnWrite s.params.devAddr := by
  have hprep : ∀ e ∈ (op.prep s).trace, e.OwnWrite s.params.devAddr := by
    intro e he
    rcases CmdStep.mem_prep_trace he with hold | hno
    · exact h e hold
    · intro htrans; rw [hno] at htrans; cases htrans
  rcases op.run_done_eq s with ⟨hrun, _⟩ | ⟨reg, v, hpay, hrun, _⟩
  · rw [hrun]; exact hprep
  · obtain ⟨_, _, htrace⟩ := memWrite_state reg v (op.prep s)
    rw [hrun, htrace]
    intro e he
    rcases List.mem_append.mp he with hold | hnew
    · exact hprep e hold
    · obtain rfl := List.mem_singleton.mp hnew
      exact fun _ => ⟨reg, v, by rw [devWrite, op.prep_params], CmdStep.payload_le hop hpay⟩

/-- Settles O45: every step of a command made of writes stays in the map; CHKERR reads the two flag registers. -/
theorem transactionsStayInTheMap : Obligations.TransactionsStayInTheMap := by
  intro i s t hx hbus
  cases hops : commandSteps s.params.hasResetLine i with
  | some ops =>
    obtain ⟨_, _, htrace⟩ := exec_state_of_steps hops hx
    obtain ⟨_, hown⟩ := runSteps_keeps (ops := ops) (s := s.beginCommand)
      (P := fun u => u.params = s.params ∧ ∀ e ∈ u.trace, e.OwnWrite s.params.devAddr)
      (fun op hop u ⟨hparams, hu⟩ => by
        have hrun := CmdStep.run_ownWrite (of_mem_commandSteps hops op hop) (hparams ▸ hu)
        exact ⟨(op.run_block_params u).2.trans hparams, hparams ▸ hrun⟩)
      ⟨rfl, by simp⟩
    rw [htrace]
    refine ⟨fun d reg v hmem => ?_, fun d reg hmem => ?_⟩
    · obtain ⟨_, _, heq, hle⟩ := hown _ hmem rfl
      cases heq; exact ⟨rfl, hle⟩
    · obtain ⟨_, _, heq, _⟩ := hown _ hmem rfl
      cases heq
  | none =>
    rcases commandSteps_eq_none hops with rfl | rfl | rfl
    · have htrace : t.trace = [devRead s 0x1D#8, devRead s 0x1E#8] := by cases hx; rfl
      rw [htrace]
      refine ⟨fun d reg v hmem => by simp [devRead] at hmem, fun d reg hmem => ?_⟩
      simp only [devRead, List.mem_cons, Event.read.injEq, List.not_mem_nil, or_false] at hmem
      exact ⟨rfl, hmem.elim And.left And.left, hmem.imp And.right And.right⟩
    · cases hx; simp
    · exact absurd rfl hbus

/-! ### The channel-state commands with successful writes -/

/-- A command that sets one channel, its write successful: mirror, one write, response OK, device (R110). -/
theorem exec_channel_done {i : Instr} {s : State} {c : Channel} {st : ChanState}
    (hops : commandSteps s.params.hasResetLine i = some [.channel c st]) (hs : s.succeeds 1) {new : Byte}
    (hnew : insertField (s.mirrorByte (regIndex c)) c st = new) :
    ∃ t, exec i s = .next t ∧
      Ran s t { s.block with mirror := s.block.mirror.set (c.toNat / 4) new (by omega) }
        [devWrite s (0x14#8 + BitVec.ofNat 8 (c.toNat / 4)) new] 0x000000#24 ∧
      DeviceFollows s t [devWrite s (0x14#8 + BitVec.ofNat 8 (c.toNat / 4)) new] := by
  subst hnew
  have hdevice := doneSteps_device (ops := [.channel c st]) s (by simp)
  exact ⟨_, exec_eq_done hops hs, ran_doneSteps [.channel c st] s, hdevice⟩

/-- The byte of a cleared field with code `v` put in (R89). -/
theorem insertField_off (m : Byte) (c : Channel) :
    insertField m c .off = m &&& ~~~(0b11#8 <<< ((c.toNat % 4) * 2)) := by
  simp [insertField, chanStateCode, fieldMask, bitOffset]

/-- Settles O16: the three commands are one step each, with the codes 0, 1 and 2. -/
theorem thinCallersComplete : Obligations.ThinCallersComplete := by
  intro s c hs
  exact ⟨exec_channel_done (i := .turnoff c) rfl hs (insertField_off _ c),
    exec_channel_done (i := .turnon c) rfl hs rfl, exec_channel_done (i := .setpwm c) rfl hs rfl⟩

/-- Clearing the field before putting `0b11` in changes nothing. -/
theorem insertField_group (m : Byte) (c : Channel) :
    insertField m c .group = m ||| (0b11#8 <<< ((c.toNat % 4) * 2)) := by
  have clear_then_set (k : Byte) : (m &&& ~~~k) ||| k = m ||| k := by
    ext j hj; simp; cases m[j] <;> cases k[j] <;> rfl
  exact clear_then_set _

/-- Settles O19: ASSIGNGRP is two steps, the duty strictly before the state. -/
theorem assigngrpCompletes : Obligations.AssigngrpCompletes := by
  intro s c hs
  rw [← insertField_group]
  have hdevice := doneSteps_device (ops := [.write (pwmReg c) maxDuty, .channel c .group]) s (by simp)
  refine ⟨_, exec_eq_done rfl hs, ran_doneSteps _ s, hdevice, ?_, fun c' hc => ?_⟩
  · exact (State.chanState_setMirror s c c .group).trans (if_pos rfl)
  · exact (State.chanState_setMirror s c c' .group).trans (if_neg hc)

/-! ### Block reset, construction, status outputs -/

/-- Settles O10: of what a step can do, the presented block reset leaves one. -/
theorem blockResetValues : Obligations.BlockResetValues := by
  intro s rest hinputs
  have hstep : step s = .next { s with inputs := rest }.blockReset := by
    rcases step_cases s with ⟨h, _⟩ | ⟨_, h, heq⟩ | ⟨_, _, _, h, _⟩ | ⟨_, _, _, h, _⟩
    all_goals rw [hinputs] at h
    all_goals cases h
    exact heq
  exact ⟨_, hstep, rfl, rfl, rfl, rfl, rfl, rfl, rfl, rfl, rfl, rfl, rfl, fun _ _ => rfl⟩

/-- Before anything wrote or reset a register, it holds its undefined value (log 6). -/
theorem readDevice_construct (p : Params) (d : DevAddr) (r : Byte) :
    (State.construct p).readDevice d r = Config.undefinedByte (loc d r) := by
  by_cases h : d = p.devAddr <;> simp [State.readDevice, State.construct, State.unlistedByte, Memory.read, h]

/-- Settles O11: construction lists no register and sets every other field outright. -/
theorem constructedStateValues : Obligations.ConstructedStateValues :=
  fun p => ⟨rfl, rfl, rfl, rfl, rfl, rfl, rfl, readDevice_construct p⟩

/-- The field of a channel is the two bits at its offset (R22, R23). -/
theorem extractField_eq_extractLsb' (m : Byte) (c : Channel) : extractField m c = m.extractLsb' (bitOffset c) 2 := by
  apply BitVec.eq_of_getLsbD_eq
  intro j hj
  have hlow : (0b11#8).getLsbD j = true := by interval_cases j <;> rfl
  simp only [extractField, BitVec.getLsbD_setWidth, BitVec.getLsbD_and, BitVec.getLsbD_ushiftRight, hlow,
    BitVec.getLsbD_extractLsb', Bool.and_true]

/-- Settles O13: the index and the offset of all sixteen channels, and the field of any byte. -/
theorem bitPackingFormulas : Obligations.BitPackingFormulas := by
  intro c
  have hindex : ∀ c : Channel, c.toNat / 4 = (c.extractLsb' 2 2).toNat := by decide
  have hoffset : ∀ c : Channel, (c.toNat % 4) * 2 = (c.extractLsb' 0 2 ++ 0#1).toNat := by decide
  exact ⟨rfl, hindex c, rfl, hoffset c, rfl, fun _ => extractField_eq_extractLsb' _ c⟩

/-- Settles O14: each flag and its code determine each other. -/
theorem statusOutputsShowBlock : Obligations.StatusOutputsShowBlock := by
  intro s
  have hmode : ∀ g, groupModeBit g = 1#1 ↔ g = .blink := by intro g; cases g <;> decide
  have hstatus : ∀ st st', errStatusCode st = errStatusCode st' ↔ st = st' := by
    intro st st'; cases st <;> cases st' <;> decide
  have hline : ∀ l, (lineBit l = 1#1 ↔ l = .active) ∧ (lineBit l = 0#1 ↔ l = .inactive) := by
    intro l; cases l <;> decide
  refine ⟨rfl, rfl, hmode _, hstatus _ .unknown, hstatus _ .clean, hstatus _ .faulted, hstatus _ .commFailure, ?_⟩
  cases hfitted : s.params.hasResetLine <;> simp [State.statusOutputs, hfitted, hline]

/-- A bit of the result field of a response word (R88). -/
theorem getLsbD_okWord {k : BitVec 6} {result : Mask16} {i : Nat} (hi : i < 16) :
    (okWord k result).getLsbD i = result.getLsbD i := by
  simp only [okWord, responseWord, BitVec.getLsbD_append, hi, if_true]

/-- Settles O30: the report of DESCERR in state Faulted is the complement of the mask. -/
theorem descerrListsFaultedChannels : Obligations.DescerrListsFaultedChannels := by
  intro s t w hfaulted hx hw i hi
  cases hx
  cases hw
  rw [getLsbD_okWord hi]
  simp [faultedVector, hfaulted, hi]

end Sys2Proof.Machine

/-! The statements of 20_memory.md. That the block never sees the devices is one relation between two runs, `Twins`,
which every primitive keeps. What a failed write leaves is one state, `failedWrite`, and `runSteps_outcome` is the rule
for a command made of writes: what its steps keep while their writes succeed, and what the first failure leaves. -/

namespace Sys2Proof.Machine

/-! ### Two runs that differ in what the devices hold (R53, R71) -/

/-- Two states in the middle of one command that the block cannot tell apart: the same block, parameters and trace,
and the same transactions will succeed. -/
structure Twins (s s' : State) : Prop where
  block : s'.block = s.block
  params : s'.params = s.params
  trace : s'.trace = s.trace
  succeeded : ∀ k, (s'.answerAt k).succeeded = (s.answerAt k).succeeded

theorem Twins.symm {s s' : State} (h : Twins s s') : Twins s' s :=
  ⟨h.block.symm, h.params.symm, h.trace.symm, fun k => (h.succeeded k).symm⟩

theorem Twins.trans {s s' s'' : State} (h : Twins s s') (h' : Twins s' s'') : Twins s s'' :=
  ⟨h'.block.trans h.block, h'.params.trans h.params, h'.trace.trans h.trace,
    fun k => (h'.succeeded k).trans (h.succeeded k)⟩

/-- Both runs go on, or the same exception ended both. -/
inductive Flow.Twins : Flow → Flow → Prop
  | cont {s s' : State} : Machine.Twins s s' → Flow.Twins (.cont s) (.cont s')
  | ended {s s' : State} : Machine.Twins s s' → s'.response = s.response → Flow.Twins (.ended s) (.ended s')

theorem Flow.Twins.andThen {f f' : Flow} {k : State → Flow} (hf : f.Twins f')
    (hk : ∀ s s', Machine.Twins s s' → (k s).Twins (k s')) : (f.andThen k).Twins (f'.andThen k) := by
  cases hf with
  | cont h => exact hk _ _ h
  | ended h hresp => exact .ended h hresp

/-- What the host sees of two states: block, trace and response. -/
def SameToHost (t t' : State) : Prop := t'.block = t.block ∧ t'.trace = t.trace ∧ t'.response = t.response

theorem Twins.respond {s s' : State} (h : Twins s s') (w : CmdWord) : SameToHost (s.respond w) (s'.respond w) :=
  ⟨h.block, h.trace, rfl⟩

/-- Two runs whose steps were twins end with the same to show. -/
theorem Flow.Twins.respondOk {f f' : Flow} (hf : f.Twins f') (k : BitVec 6) (result : Mask16) :
    SameToHost (f.andThen (returnOk k result)).state (f'.andThen (returnOk k result)).state := by
  cases hf with
  | cont h => exact h.respond _
  | ended h hresp => exact ⟨h.block, h.trace, hresp⟩

section Twins

variable {s s' : State} (h : Twins s s')

include h

/-- A transaction appends the same event and takes one answer in both runs. -/
theorem Twins.transaction (e : Event) : Twins (s.emit e).takeAnswer (s'.emit e).takeAnswer where
  block := h.block
  params := h.params
  trace := congrArg (· ++ [e]) h.trace
  succeeded k := by simpa using h.succeeded (k + 1)

/-- A write succeeds in both runs, or fails in both with the same number. Whether a failed one reached the devices, and
what it did there, the block does not see. -/
theorem Twins.busWrite {reach : State → State} (d : DevAddr) (reg v : Byte) (hunseen : ∀ u, Twins u (reach u)) :
    (busWrite d reg v reach s).Twins (Machine.busWrite d reg v reach s') := by
  have hissued : Twins (issueWrite d reg v s) (issueWrite d reg v s') := h.transaction _
  have hleft (r : Bool) (u : State) : Twins u (if r then reach u else u) := by
    cases r
    · exact ⟨rfl, rfl, rfl, fun _ => rfl⟩
    · exact hunseen u
  have hfirst := h.succeeded 0
  rcases busWrite_cases d reg v reach s with ⟨hok, heq⟩ | ⟨r, hfail, heq⟩
  · rw [heq, busWrite_done _ _ _ _ _ (hfirst.trans hok)]
    exact .cont (((hunseen _).symm.trans hissued).trans (hunseen _))
  · rw [hfail] at hfirst
    obtain ⟨r', hfail'⟩ := Answer.exists_fail hfirst
    have hboth := ((hleft r _).symm.trans hissued).trans (hleft r' _)
    rw [heq, busWrite_fail _ _ _ _ _ _ hfail', h.trace]
    exact .ended ⟨hboth.block, hboth.params, hboth.trace, hboth.succeeded⟩ rfl

theorem Twins.memWrite (reg v : Byte) : (memWrite reg v s).Twins (Machine.memWrite reg v s') := by
  unfold Machine.memWrite
  rw [h.params]
  exact h.busWrite _ reg v fun u => ⟨rfl, rfl, rfl, fun _ => rfl⟩

theorem Twins.mirrorByte (i : Fin 4) : s'.mirrorByte i = s.mirrorByte i := by
  simp only [State.mirrorByte, h.block]

/-- The reset pulse emits the same three events (R172). -/
theorem Twins.linePulse : Twins (linePulse s) (Machine.linePulse s') where
  block := by simp only [linePulse_block, h.block]
  params := h.params
  trace := by
    simp [Machine.linePulse, lineSet_active, lineSet_inactive, delay_eq, h.trace, h.params]
  succeeded := h.succeeded

theorem Twins.setGroupMode (g : GroupMode) : Twins (s.setGroupMode g) (s'.setGroupMode g) :=
  ⟨by simp only [State.setGroupMode_block, h.block], h.params, h.trace, h.succeeded⟩

theorem Twins.clearMirror : Twins s.clearMirror s'.clearMirror :=
  ⟨by simp only [State.clearMirror_block, h.block], h.params, h.trace, h.succeeded⟩

theorem Twins.setMirror (i : Fin 4) (v : Byte) : Twins (s.setMirror i v) (s'.setMirror i v) :=
  ⟨by simp only [State.setMirror_block, h.block], h.params, h.trace, h.succeeded⟩

/-- What a step does before its write, it does to the block alone or by the line. -/
theorem Twins.prep (op : CmdStep) : Twins (op.prep s) (op.prep s') := by
  cases op with
  | write reg v => exact h
  | channel c st =>
    simp only [CmdStep.prep, h.mirrorByte]
    exact h.setMirror _ _
  | mode clr => exact h
  | switch g => exact h.setGroupMode g
  | lineReset => exact h.linePulse.clearMirror.setGroupMode _

/-- What a step writes comes from its operands and the block (R71). -/
theorem Twins.payload (op : CmdStep) : op.payload s' = op.payload s := by
  cases op <;> simp only [CmdStep.payload, h.mirrorByte, h.block]

theorem Twins.run (op : CmdStep) : (op.run s).Twins (op.run s') := by
  unfold CmdStep.run
  rw [h.payload op]
  cases op.payload s with
  | none => exact .cont (h.prep op)
  | some w => exact (h.prep op).memWrite w.1 w.2

end Twins

theorem Twins.runSteps {s s' : State} (h : Twins s s') (ops : List CmdStep) :
    (runSteps ops s).Twins (Machine.runSteps ops s') := by
  induction ops generalizing s s' with
  | nil => exact .cont h
  | cons op ops ih => exact (h.run op).andThen fun _ _ hu => ih hu

/-- What CHKERR finds when it starts in `s`: both reads are issued whatever the first is answered (R151). -/
def checkFound (s : State) : ErrStatus × Mask16 :=
  checkOutcome s.params.commFailSentinel (readAnswer s) (readAnswer (afterRead eflagLoReg s))

/-- CHKERR is two reads, the error fields set to what they found, and the response. -/
theorem execChkerr_eq (s : State) :
    execChkerr s = .next (((afterRead eflagHiReg (afterRead eflagLoReg s.beginCommand)).setErr (checkFound s)).respond
      (okWord 0#6 (checkResult (checkFound s).1))) := rfl

theorem Twins.afterRead {s s' : State} (h : Twins s s') (reg : Byte) :
    Twins (afterRead reg s) (Machine.afterRead reg s') := by
  unfold Machine.afterRead
  rw [h.params]
  exact h.transaction _

theorem Twins.setErr {s s' : State} (h : Twins s s') (e : ErrStatus × Mask16) : Twins (s.setErr e) (s'.setErr e) :=
  ⟨by simp only [State.setErr_block, h.block], h.params, h.trace, h.succeeded⟩

/-- A read returns the same in two runs that are answered with the same bytes. -/
theorem readAnswer_congr {s s' : State} (hbytes : ∀ b, s'.answerAt 0 = .done b ↔ s.answerAt 0 = .done b) :
    readAnswer s' = readAnswer s := by
  have hiff (u : State) (b : Byte) : readAnswer u = some b ↔ u.answerAt 0 = .done b := by
    unfold readAnswer
    cases u.answerAt 0 <;> simp
  ext b
  rw [hiff, hiff, hbytes]

theorem checkFound_congr {s s' : State} (hparams : s'.params = s.params)
    (hbytes : ∀ k b, s'.answerAt k = .done b ↔ s.answerAt k = .done b) : checkFound s' = checkFound s := by
  have hlo : readAnswer s' = readAnswer s := readAnswer_congr (hbytes 0)
  have hhi : readAnswer (afterRead eflagLoReg s') = readAnswer (afterRead eflagLoReg s) :=
    readAnswer_congr fun b => by simpa [afterRead] using hbytes 1 b
  simp only [checkFound, hlo, hhi, hparams]

/-- Settles O50: a command made of writes runs its steps on twins, BUSRESET is one write, DESCERR reads the block alone,
and CHKERR the bytes that its premise makes the same. -/
theorem blockIndependentOfDevice : Obligations.BlockIndependentOfDevice := by
  intro i s s' t t' hblock hparams hsucc hbytes hx hx'
  have htwins : Twins s.beginCommand s'.beginCommand := ⟨hblock, hparams, rfl, hsucc⟩
  cases hops : commandSteps s.params.hasResetLine i with
  | some ops =>
    rw [exec_eq_runSteps hops] at hx
    rw [exec_eq_runSteps (hparams ▸ hops)] at hx'
    cases hx
    cases hx'
    exact (htwins.runSteps ops).respondOk _ _
  | none =>
    rcases commandSteps_eq_none hops with rfl | rfl | rfl
    · rw [exec, execChkerr_eq] at hx hx'
      cases hx
      cases hx'
      rw [checkFound_congr hparams (hbytes rfl)]
      exact (((htwins.afterRead _).afterRead _).setErr _).respond _
    · cases hx
      cases hx'
      simp [hblock]
    · have hwrite := htwins.busWrite swrstDev swrstReg swrstVal
        (reach := State.busResetDevices) fun u => ⟨rfl, rfl, rfl, fun _ => rfl⟩
      cases hx
      cases hx'
      exact hwrite.respondOk _ _

/-! ### A write that fails (R53, R191) -/

/-- Where a failed write ends the command: the device took the write or not, as `reached` says. -/
def failedWrite (reached : Bool) (reg v : Byte) (s : State) : State :=
  (if reached then wrote reg v s else issueWrite s.params.devAddr reg v s).respond
    (transportErrorWord (transactions s.trace))

section FailedWrite

variable {s0 s : State} (reached : Bool) (reg v : Byte)

theorem memWrite_fail (h : s.answerAt 0 = .fail reached) :
    memWrite reg v s = .ended (failedWrite reached reg v s) := busWrite_fail _ _ _ _ _ _ h

@[simp] theorem failedWrite_block : (failedWrite reached reg v s).block = s.block := by cases reached <;> rfl

@[simp] theorem failedWrite_trace : (failedWrite reached reg v s).trace = s.trace ++ [devWrite s reg v] := by
  cases reached <;> rfl

@[simp] theorem failedWrite_response :
    (failedWrite reached reg v s).response = some (transportErrorWord (transactions s.trace)) := by
  cases reached <;> rfl

theorem State.Accounts.failedWrite (h : s0.Accounts s) : s0.Accounts (failedWrite reached reg v s) := by
  cases reached
  · exact ((accounts_kept s0).issueWrite _ _ _ h).of_no_transaction rfl rfl rfl rfl rfl
  · exact (h.wrote reg v).of_no_transaction rfl rfl rfl rfl rfl

/-- Both outcomes of R53. -/
theorem DeviceFollows.failedWrite {es : List Event} (h : DeviceFollows s0 s es) :
    DeviceFollows s0 (failedWrite reached reg v s) (if reached then es ++ [devWrite s reg v] else es) := by
  cases reached
  · exact h
  · exact h.wrote reg v

end FailedWrite

/-! ### A command up to its first failed write -/

theorem CmdStep.le_transactions_done (op : CmdStep) (s : State) :
    transactions s.trace ≤ transactions (op.done s).trace := by
  rcases op.run_done_eq s with ⟨_, hdone⟩ | ⟨reg, v, _, _, hdone⟩
  · rw [hdone, op.transactions_prep]
  · rw [hdone, transactions_wrote, op.transactions_prep]; exact Nat.le_succ _

theorem le_transactions_doneSteps (ops : List CmdStep) (s : State) :
    transactions s.trace ≤ transactions (doneSteps ops s).trace :=
  doneSteps_keeps (P := fun u => transactions s.trace ≤ transactions u.trace)
    (fun op _ u hu => hu.trans (op.le_transactions_done u)) (Nat.le_refl _)

/-- A step whose next answer is a success, should it need one, is done. -/
theorem CmdStep.run_eq_cont {s0 s : State} (op : CmdStep) (h : s0.Accounts s)
    (hs : ∀ k, k < transactions (op.done s).trace → (s0.answerAt k).succeeded = true) :
    op.run s = .cont (op.done s) := by
  rcases op.run_done_eq s with ⟨hrun, hdone⟩ | ⟨reg, v, _, hrun, hdone⟩
  · rw [hrun, hdone]
  · rw [hdone, transactions_wrote] at hs
    rw [hrun, hdone]
    refine busWrite_done _ _ _ _ _ ?_
    rw [(op.prep_accounts h).answerAt 0]
    exact hs _ (Nat.lt_succ_self _)

/-- Steps whose transactions are answered with success are done. -/
theorem runSteps_eq_cont {s0 s : State} (ops : List CmdStep) (h : s0.Accounts s)
    (hs : ∀ k, k < transactions (doneSteps ops s).trace → (s0.answerAt k).succeeded = true) :
    runSteps ops s = .cont (doneSteps ops s) := by
  induction ops generalizing s with
  | nil => rfl
  | cons op ops ih =>
    have hop := op.run_eq_cont h fun k hk => hs k (hk.trans_le (le_transactions_doneSteps ops (op.done s)))
    simp only [runSteps_cons, hop]
    exact ih (op.done_accounts h) hs

section FirstFailure

variable {i : Instr} {s u : State} {before after : List CmdStep} {op : CmdStep} {reg v : Byte} {n : Nat}
  {reached : Bool} (hops : commandSteps s.params.hasResetLine i = some (before ++ op :: after))
  (hu : doneSteps before s.beginCommand = u) (hn : transactions u.trace = n) (hs : s.succeeds n)
  (hpayload : op.payload u = some (reg, v)) (hfail : s.answerAt n = .fail reached)

include hops hu hn hs hpayload hfail

/-- The command ends with the write of the step `op` when the steps before it are done and its write, transaction `n`,
fails. -/
theorem exec_eq_failed : exec i s = .next (failedWrite reached reg v (op.prep u)) := by
  subst hu
  have hacc := doneSteps_accounts before (State.Accounts.beginCommand s)
  have hfirst : (op.prep (doneSteps before s.beginCommand)).answerAt 0 = .fail reached := by
    rw [(op.prep_accounts hacc).answerAt 0, op.transactions_prep, hn]; exact hfail
  have hrun : op.run (doneSteps before s.beginCommand) = .ended
      (failedWrite reached reg v (op.prep (doneSteps before s.beginCommand))) := by
    simp only [CmdStep.run, hpayload]
    exact memWrite_fail reached reg v hfirst
  have hbefore := runSteps_eq_cont before (State.Accounts.beginCommand s) fun k hk => hs k (hn ▸ hk)
  simp only [exec_eq_runSteps hops, runSteps_append, hbefore, Flow.andThen_cont, runSteps_cons, hrun,
    Flow.andThen_ended, Flow.state_ended]

/-- What such a command leaves: of the block, what the steps up to the failed write's own made it; of the devices, what
the trace says, with the failed write or without it. -/
theorem exec_fails (hline : .lineReset ∉ before ++ [op]) {resp : CmdWord} (hresp : transportErrorWord n = resp) :
    ∃ t, exec i s = .next t ∧ Ran s t (op.prep u).block (u.trace ++ [devWrite s reg v]) resp ∧
      DeviceFollows s t (if reached then u.trace ++ [devWrite s reg v] else u.trace) := by
  have hexec := exec_eq_failed hops hu hn hs hpayload hfail
  subst hu
  simp only [List.mem_append, List.mem_singleton, not_or] at hline
  obtain ⟨hbefore, hop⟩ := hline
  have hprep : (op.prep (doneSteps before s.beginCommand)).trace = (doneSteps before s.beginCommand).trace := by
    cases op with
    | lineReset => exact absurd rfl hop
    | _ => rfl
  have hacc := op.prep_accounts (doneSteps_accounts before (State.Accounts.beginCommand s))
  have hwrite : devWrite (op.prep (doneSteps before s.beginCommand)) reg v = devWrite s reg v := by
    rw [devWrite, hacc.params]; rfl
  have hdevice := (CmdStep.prep_device (Ne.symm hop) (doneSteps_device s hbefore)).failedWrite reached reg v
  obtain ⟨hanswers, hissued, hinputs, hparams⟩ := hacc.failedWrite reached reg v
  rw [hprep, hwrite] at hdevice
  rw [failedWrite_trace, hprep, hwrite] at hanswers hissued
  refine ⟨_, hexec, ⟨by simp, by simp [hprep, hwrite], ?_, hparams, hinputs, hanswers, hissued⟩, hdevice⟩
  rw [failedWrite_response, hprep, hn, hresp]

end FirstFailure

theorem State.succeeds_zero (s : State) : s.succeeds 0 := fun k hk => absurd hk (Nat.not_lt_zero k)

/-- Settles O20: the duty write is the first step, the LEDOUT write the second. -/
theorem assigngrpFailures : Obligations.AssigngrpFailures := by
  intro s c r
  rw [← insertField_group]
  refine ⟨fun hfail => ?_, fun hs hfail => ?_⟩
  · exact exec_fails (before := []) (op := .write (pwmReg c) maxDuty) rfl rfl rfl s.succeeds_zero rfl hfail (by simp)
      transportErrorWord_zero
  · exact exec_fails (before := [.write (pwmReg c) maxDuty]) (op := .channel c .group) rfl rfl rfl hs rfl hfail
      (by simp) transportErrorWord_one

/-- Switching to the cached mode is a step without a write. -/
theorem CmdStep.done_switch_same {g : GroupMode} {s : State} (h : s.block.groupMode = g) :
    (CmdStep.switch g).done s = s := by
  simp [CmdStep.done, CmdStep.payload, CmdStep.prep, h, State.setGroupMode_self]

theorem CmdStep.done_switch_other {g : GroupMode} {s : State} (h : s.block.groupMode ≠ g) :
    (CmdStep.switch g).done s = wrote modeReg (modeByte false g) (s.setGroupMode g) := by
  simp [CmdStep.done, CmdStep.payload, CmdStep.prep, h]

theorem CmdStep.payload_switch_other {g : GroupMode} {s : State} (h : s.block.groupMode ≠ g) :
    (CmdStep.switch g).payload s = some (modeReg, modeByte false g) := if_neg h

/-- Settles O24: each clause names the steps before the write that fails; the mode write is a step of its own on a
transition, and no transaction without one. -/
theorem groupModeFailures : Obligations.GroupModeFailures := by
  intro s f d r
  refine ⟨fun hmode hfail => ?_, fun hmode hs hfail => ?_, fun hmode hfail => ?_, fun hfail => ?_,
    fun hmode hs hfail => ?_, fun hmode hs hfail => ?_, fun hmode hs hfail => ?_⟩
  · have hother : s.beginCommand.block.groupMode ≠ .pwmDutyOnly := by simp [hmode]
    exact exec_fails (before := []) (op := .switch .pwmDutyOnly) rfl rfl rfl s.succeeds_zero
      (CmdStep.payload_switch_other hother) hfail (by simp) transportErrorWord_zero
  · have hother : s.beginCommand.block.groupMode ≠ .pwmDutyOnly := by simp [hmode]
    exact exec_fails (before := [.switch .pwmDutyOnly]) (op := .write grpDutyReg d) rfl
      (CmdStep.done_switch_other hother) rfl hs rfl hfail (by simp) transportErrorWord_one
  · exact exec_fails (before := [.switch .pwmDutyOnly]) (op := .write grpDutyReg d) rfl
      (CmdStep.done_switch_same (s := s.beginCommand) hmode) rfl s.succeeds_zero rfl hfail (by simp)
      transportErrorWord_zero
  · exact exec_fails (before := []) (op := .write grpDutyReg d) rfl rfl rfl s.succeeds_zero rfl hfail (by simp)
      transportErrorWord_zero
  · have hother : (wrote grpDutyReg d s.beginCommand).block.groupMode ≠ .blink := by simp [wrote, hmode]
    exact exec_fails (before := [.write grpDutyReg d]) (op := .switch .blink) rfl rfl rfl hs
      (CmdStep.payload_switch_other hother) hfail (by simp) transportErrorWord_one
  · have hother : (wrote grpDutyReg d s.beginCommand).block.groupMode ≠ .blink := by simp [wrote, hmode]
    exact exec_fails (before := [.write grpDutyReg d, .switch .blink]) (op := .write grpFreqReg f) rfl
      (CmdStep.done_switch_other hother) rfl hs rfl hfail (by simp) transportErrorWord_two
  · exact exec_fails (before := [.write grpDutyReg d, .switch .blink]) (op := .write grpFreqReg f) rfl
      (CmdStep.done_switch_same (s := wrote grpDutyReg d s.beginCommand) hmode) rfl hs rfl hfail (by simp)
      transportErrorWord_one

/-! ### The two commands that reset devices (R172, R174) -/

/-- What every register holds when the line reset has come to its write. -/
theorem readDevice_prep_lineReset (s : State) (d : DevAddr) (q : Byte) :
    (CmdStep.lineReset.prep s).readDevice d q =
      if d = s.params.devAddr then defaultByte d q else s.readDevice d q :=
  State.readDevice_lineResetDevice _ d q

/-- What every register holds after a write to the own device, whatever it was answered. -/
theorem readDevice_memWrite (reg v : Byte) (s : State) (d : DevAddr) (q : Byte) :
    (memWrite reg v s).state.readDevice d q =
      if s.answerAt 0 = .fail false then s.readDevice d q else (wrote reg v s).readDevice d q := by
  rcases memWrite_cases reg v s with ⟨hok, heq⟩ | ⟨reached, hfail, heq⟩
  · rw [heq, if_neg fun hfail => by rw [hfail] at hok; cases hok]
    rfl
  · rw [heq, hfail]
    cases reached <;> rfl

theorem readDevice_andThen_returnOk (f : Flow) (k : BitVec 6) (result : Mask16) (d : DevAddr) (q : Byte) :
    (f.andThen (returnOk k result)).state.readDevice d q = f.state.readDevice d q := by cases f <;> rfl

/-- What every register holds after a RESET with a reset line: the enable byte where its write reached the device, the
defaults in the rest of the own device, and other devices as before. -/
theorem readDevice_reset_byLine {s t : State} (hline : s.params.hasResetLine = true) (hx : exec .reset s = .next t)
    (d : DevAddr) (q : Byte) :
    t.readDevice d q =
      if d = s.params.devAddr then
        if q = enableReg ∧ s.answerAt 0 ≠ .fail false then enableByte else defaultByte d q
      else s.readDevice d q := by
  have hops : commandSteps s.params.hasResetLine .reset = some [.lineReset] := by rw [hline]; rfl
  have hprep := readDevice_prep_lineReset s.beginCommand d q
  have hwrote : (wrote enableReg enableByte (CmdStep.lineReset.prep s.beginCommand)).readDevice d q =
      if s.params.devAddr = d ∧ enableReg = q then enableByte
      else (CmdStep.lineReset.prep s.beginCommand).readDevice d q := by
    simp [wrote, State.readDevice_storeDevice, show clearsLatch enableReg enableByte = false by decide]
  have hanswer : (CmdStep.lineReset.prep s.beginCommand).answerAt 0 = s.answerAt 0 := rfl
  have hexec : t.readDevice d q =
      (memWrite enableReg enableByte (CmdStep.lineReset.prep s.beginCommand)).state.readDevice d q := by
    rw [exec_eq_runSteps hops, runSteps_singleton] at hx
    cases hx
    exact readDevice_andThen_returnOk _ _ _ d q
  rw [hexec, readDevice_memWrite, hwrote, hprep, hanswer]
  by_cases hd : d = s.params.devAddr
  · by_cases hq : q = enableReg
    · by_cases hfail : s.answerAt 0 = .fail false <;> simp [hd, hq, hfail]
    · simp [hd, hq, Ne.symm hq]
  · simp [hd, Ne.symm hd]

/-- Settles O36: each register is at its default but the enable register, which the last write may have set. -/
theorem resetByLineDevice : Obligations.ResetByLineDevice := by
  intro s t hline hx
  have hread := readDevice_reset_byLine hline hx
  refine ⟨fun i => ?_, ?_, fun hreach => ?_, fun hfail => ?_, fun r henable hmode hledout => ?_, fun d r hd => ?_⟩
  · rw [hread, if_pos rfl, if_neg fun h => absurd h.1 (plainReg_enableReg.ne_ledoutReg i).symm]
    exact defaultByte_ledoutReg _ i
  · rw [hread, if_pos rfl, if_neg fun h => absurd h.1 (by decide)]
    exact defaultByte_modeReg _
  · rw [hread, if_pos rfl, if_pos ⟨rfl, hreach⟩]
    rfl
  · rw [hread, if_pos rfl, if_neg fun h => h.2 hfail]
    exact defaultByte_enableReg _
  · rw [hread, if_pos rfl, if_neg fun h => henable h.1]
    exact defaultByte_other _ henable hmode hledout
  · rw [hread, if_neg hd]

/-- When the broadcast has reached the bus, the own device is at its power-on defaults and every register of any other
device at a free value (log 8). -/
def BroadcastReached (own : DevAddr) (t : State) : Prop :=
  OwnDeviceAtDefaults t ∧ ∀ d r, d ≠ own → t.readDevice d r = Config.powerOnByte (loc d r)

theorem broadcastReached_busResetDevices (s : State) : BroadcastReached s.params.devAddr s.busResetDevices := by
  have hown (r : Byte) : s.busResetDevices.readDevice s.params.devAddr r = defaultByte s.params.devAddr r :=
    (s.readDevice_busResetDevices _ r).trans (if_pos rfl)
  refine ⟨⟨fun i => ?_, ?_, ?_, fun r henable hmode hledout => ?_⟩, fun d r hd => ?_⟩
  · exact (hown _).trans (defaultByte_ledoutReg _ i)
  · exact (congrArg (BitVec.getLsbD · 5) (hown modeReg)).trans (defaultByte_modeReg _)
  · exact (congrArg (BitVec.getLsbD · 7) (hown enableReg)).trans (defaultByte_enableReg _)
  · exact (hown r).trans (defaultByte_other _ henable hmode hledout)
  · exact (s.readDevice_busResetDevices d r).trans (if_neg hd)

/-- The state after the broadcast was issued and answered, before its effect on the devices (R174). -/
def broadcast (s : State) : State := issueWrite swrstDev swrstReg swrstVal s.beginCommand

theorem exec_busreset_of_success {s : State} (h : (s.answerAt 0).succeeded = true) :
    exec .busreset s = .next ((broadcast s).busResetDevices.respond (okWord 0#6 0#16)) := by
  have hwrite := busWrite_done swrstDev swrstReg swrstVal State.busResetDevices s.beginCommand h
  rw [exec, execBusreset, command_eq, hwrite]
  rfl

theorem exec_busreset_of_fail {s : State} {reached : Bool} (h : s.answerAt 0 = .fail reached) :
    exec .busreset s = .next ((if reached then (broadcast s).busResetDevices else broadcast s).respond
      (transportErrorWord 0)) := by
  have hwrite := busWrite_fail swrstDev swrstReg swrstVal State.busResetDevices s.beginCommand reached h
  rw [exec, execBusreset, command_eq, hwrite]
  rfl

/-- The account of a BUSRESET, whatever it did to the devices: one write, one answer, no block state. -/
theorem ran_broadcast {s u : State} (hu : u = broadcast s ∨ u = (broadcast s).busResetDevices) (w : CmdWord) :
    Ran s (u.respond w) s.block [.write 0x6B#7 0xA5#8 0x5A#8] w := by
  rcases hu with rfl | rfl <;> exact ⟨rfl, rfl, rfl, rfl, rfl, rfl, rfl⟩

/-- Settles O40: the broadcast succeeds, fails having reached the bus, or fails without. -/
theorem busresetResult : Obligations.BusresetResult := by
  intro s
  have hreach : BroadcastReached s.params.devAddr (broadcast s).busResetDevices :=
    broadcastReached_busResetDevices (broadcast s)
  refine ⟨fun hs => ?_, fun r hfail => ?_⟩
  · exact ⟨_, exec_busreset_of_success (hs 0 Nat.one_pos), okWord_zero ▸ ran_broadcast (.inr rfl) _, hreach⟩
  · cases r with
    | true =>
      exact ⟨_, exec_busreset_of_fail hfail, transportErrorWord_zero ▸ ran_broadcast (.inr rfl) _, fun _ => hreach,
        nofun⟩
    | false =>
      exact ⟨_, exec_busreset_of_fail hfail, transportErrorWord_zero ▸ ran_broadcast (.inl rfl) _,
        nofun, fun _ _ _ => rfl⟩

/-! ### What a command made of writes keeps, and what its first failed write leaves -/

section Outcome

variable {s0 : State} {P Q : State → Prop} {ops : List CmdStep}
  (hprep : ∀ op ∈ ops, ∀ u, s0.Accounts u → P u → P (op.prep u))
  (hdone : ∀ u reg v, s0.Accounts u → (s0.answerAt (transactions u.trace)).succeeded = true → P u →
    P (wrote reg v u))
  (hfail : ∀ u reg v r, s0.Accounts u → s0.answerAt (transactions u.trace) = .fail r → P u →
    Q (failedWrite r reg v u))

include hprep hdone hfail

/-- If what a step does before its write keeps `P`, and so does a write that succeeds, and a write that fails turns `P`
into `Q`, then the steps end in `P`, or the command in `Q`. -/
theorem runSteps_outcome {s : State} (hacc : s0.Accounts s) (hs : P s) :
    (∃ u, runSteps ops s = .cont u ∧ P u) ∨ ∃ u, runSteps ops s = .ended u ∧ Q u := by
  induction ops generalizing s with
  | nil => exact .inl ⟨s, rfl, hs⟩
  | cons op ops ih =>
    have hrest := fun u (hacc : s0.Accounts u) (hu : P u) =>
      ih (fun o ho => hprep o (List.mem_cons_of_mem op ho)) hacc hu
    have hacc' := op.prep_accounts hacc
    have hP := hprep op List.mem_cons_self s hacc hs
    simp only [runSteps_cons]
    rcases op.run_done_eq s with ⟨hrun, _⟩ | ⟨reg, v, _, hrun, _⟩
    · rw [hrun]
      exact hrest _ hacc' hP
    · have hanswer := hacc'.answerAt 0
      rw [Nat.add_zero] at hanswer
      rcases memWrite_cases reg v (op.prep s) with ⟨hok, heq⟩ | ⟨r, hno, heq⟩
      · rw [hrun, heq]
        exact hrest _ (hacc'.wrote reg v) (hdone _ reg v hacc' (hanswer ▸ hok) hP)
      · rw [hrun, heq]
        exact .inr ⟨_, rfl, hfail _ reg v r hacc' (hanswer ▸ hno) hP⟩

end Outcome

/-- A command from `s` that a failed write ended in `t`: the response names it, it is the last of the trace, and the
devices hold it or not. -/
def EndedByFailedWrite (s t : State) : Prop :=
  ∃ n r, t.response = some (transportErrorWord n) ∧ s.answerAt n = .fail r ∧ transactions t.trace = n + 1 ∧
    DeviceFollows s t (if r then t.trace else t.trace.dropLast)

theorem endedByFailedWrite_failedWrite {s u : State} (r : Bool) (reg v : Byte) (h : DeviceFollows s u u.trace)
    (hfail : s.answerAt (transactions u.trace) = .fail r) : EndedByFailedWrite s (failedWrite r reg v u) := by
  refine ⟨_, r, failedWrite_response r reg v, hfail, by simp [devWrite], ?_⟩
  rw [failedWrite_trace, List.dropLast_concat]
  exact h.failedWrite r reg v

/-- The status field tells an OK response from a TransportError (R88). -/
theorem okWord_ne_transportErrorWord (k : BitVec 6) (result : Mask16) (n : Nat) :
    okWord k result ≠ transportErrorWord n := by
  intro h
  have hstatus := congrArg (BitVec.extractLsb' 22 2) h
  rw [okWord, transportErrorWord, responseWord_status, responseWord_status] at hstatus
  exact absurd hstatus (by decide)

/-- The `k` field tells the numbers of a command's transactions apart (R88). -/
theorem transportErrorWord_inj {k n : Nat} (hk : k ≤ 16) (hn : n ≤ 16)
    (h : transportErrorWord k = transportErrorWord n) : k = n := by
  have hfield := congrArg (BitVec.extractLsb' 16 6) h
  rw [transportErrorWord, transportErrorWord, responseWord_k, responseWord_k] at hfield
  have hnat := congrArg BitVec.toNat hfield
  rw [BitVec.toNat_ofNat, BitVec.toNat_ofNat] at hnat
  omega

/-- Settles O48: only a command made of writes reports a TransportError here, and a failed write ended it. -/
theorem failedWriteReachesDeviceOrNot : Obligations.FailedWriteReachesDeviceOrNot := by
  intro i s t k hx hbus hline hk hresp
  change t.response = some (transportErrorWord k) at hresp
  obtain ⟨_, _, hcount, _⟩ := everyTransactionTakesOneAnswer i s t hx
  have hok {u : State} {k' : BitVec 6} {result : Mask16} (ht : t = u.respond (okWord k' result)) : False := by
    rw [ht] at hresp
    exact okWord_ne_transportErrorWord _ _ _ (Option.some.inj hresp)
  cases hops : commandSteps s.params.hasResetLine i with
  | none =>
    rcases commandSteps_eq_none hops with rfl | rfl | rfl
    · cases hx; exact (hok rfl).elim
    · cases hx; exact (hok rfl).elim
    · exact absurd rfl hbus
  | some ops =>
    have hnoline : ∀ op ∈ ops, op ≠ .lineReset := by
      rintro op hop rfl
      obtain ⟨hreset, hfitted⟩ := of_mem_commandSteps hops _ hop
      rw [hline hreset] at hfitted; cases hfitted
    have houtcome := runSteps_outcome (s0 := s) (P := fun u => DeviceFollows s u u.trace) (Q := EndedByFailedWrite s)
      (fun op hop u _ hu => CmdStep.prep_device (hnoline op hop) hu) (fun u reg v _ _ hu => hu.wrote reg v)
      (fun u reg v r _ hfail hu => endedByFailedWrite_failedWrite r reg v hu hfail)
      (State.Accounts.beginCommand s) (DeviceFollows.beginCommand s)
    rw [exec_eq_runSteps hops] at hx
    rcases houtcome with ⟨u, hrun, _⟩ | ⟨u, hrun, n, r, hn, hfail, hlast, hdevice⟩
    · rw [hrun] at hx
      cases hx; exact (hok rfl).elim
    · rw [hrun] at hx
      cases hx
      obtain rfl : k = n := transportErrorWord_inj hk (by simp at hcount; omega) (Option.some.inj (hresp.symm.trans hn))
      refine ⟨fun hreached => ?_, fun hlost => ?_⟩
      · obtain rfl : r = true := by simpa [hfail] using hreached
        exact hdevice
      · obtain rfl : r = false := by simpa [hfail] using hlost
        exact hdevice

/-! ### The ideal device (R73) -/

theorem ne_flagReg_of_le {q : Byte} (h : q.toNat ≤ 0x17) : q ≠ eflagLoReg ∧ q ≠ eflagHiReg := by
  constructor <;> (rintro rfl; exact absurd h (by decide))

/-- The byte set is the byte read, in the registers the device holds; the others stay. -/
theorem IdealDevice.read_set (d : IdealDevice) (reg v q : Byte) :
    (d.set reg v).read q =
      if reg = q ∧ (q.toNat ≤ 0x17 ∨ q = eflagLoReg ∨ q = eflagHiReg) then some v else d.read q := by
  by_cases hlo : reg = eflagLoReg
  · subst hlo
    by_cases hq : q = eflagLoReg
    · simp [IdealDevice.set, IdealDevice.read, hq]
    · simp [IdealDevice.set, IdealDevice.read, hq, Ne.symm hq]
  by_cases hhi : reg = eflagHiReg
  · subst hhi
    by_cases hq : q = eflagHiReg
    · simp [IdealDevice.set, IdealDevice.read, hq, hlo]
    · simp [IdealDevice.set, IdealDevice.read, hq, hlo, Ne.symm hq]
  by_cases hq : reg = q
  · subst hq
    have hbound : reg.toNat < 24 ↔ reg.toNat ≤ 0x17 := by omega
    by_cases hheld : reg.toNat ≤ 0x17
    · simp [IdealDevice.set, IdealDevice.read, hlo, hhi, hbound, hheld]
    · simp [IdealDevice.set, IdealDevice.read, hlo, hhi, hbound, hheld]
  · have hne : reg.toNat ≠ q.toNat := fun h => hq (BitVec.eq_of_toNat_eq h)
    simp [IdealDevice.set, IdealDevice.read, hlo, hhi, hq, hne]

/-- What transaction `k` of a command is answered, if the ideal device gives the answers. -/
theorem IdealDevice.answerAt {d : IdealDevice} {s : State} {failing : List Nat}
    (hans : ∀ n, n < 17 → s.answers[n]? = (d.answers failing)[n]?) {k : Nat} (hk : k < 17) :
    s.answerAt k = if k ∈ failing then .fail false
      else if k = 0 then .done d.eflagLo else if k = 1 then .done d.eflagHi else .done 0x00#8 := by
  simp [State.answerAt, hans k hk, d.answers_getElem? failing hk]

theorem IdealDevice.answerAt_succeeded {d : IdealDevice} {s : State} {failing : List Nat}
    (hans : ∀ n, n < 17 → s.answers[n]? = (d.answers failing)[n]?) {k : Nat} (hk : k < 17) :
    (s.answerAt k).succeeded = true ↔ k ∉ failing := by
  rw [IdealDevice.answerAt hans hk]
  by_cases hmem : k ∈ failing
  · simp [hmem, Answer.succeeded]
  · simp only [hmem, if_false, not_false_iff, iff_true]
    split
    · rfl
    · split <;> rfl

/-- BUSRESET emits the broadcast and nothing else (R175). -/
theorem busreset_trace {s t : State} (hx : exec .busreset s = .next t) :
    t.trace = [.write 0x6B#7 0xA5#8 0x5A#8] := by
  cases ha : s.answerAt 0 with
  | done b =>
    rw [exec_busreset_of_success (by rw [ha]; rfl)] at hx
    cases hx
    rfl
  | fail r =>
    rw [exec_busreset_of_fail ha] at hx
    cases hx
    cases r <;> rfl

/-- Only CHKERR reads: the low flag register as its first transaction, the high one as its second (R63, R151). -/
theorem read_cases_of_trace {i : Instr} {s t : State} {k : Nat} {dev : DevAddr} {reg : Byte}
    (hx : exec i s = .next t) (hk : (t.trace.filter Event.isTransaction)[k]? = some (.read dev reg)) :
    k = 0 ∧ reg = eflagLoReg ∨ k = 1 ∧ reg = eflagHiReg := by
  have hmem : .read dev reg ∈ t.trace := List.mem_of_mem_filter (List.mem_of_getElem? hk)
  have hbus : i ≠ .busreset := by
    rintro rfl
    rw [busreset_trace hx] at hmem
    simp at hmem
  obtain ⟨_, hread⟩ := transactionsStayInTheMap i s t hx hbus
  obtain ⟨rfl, _, _⟩ := hread dev reg hmem
  have htrace : t.trace.filter Event.isTransaction = [devRead s eflagLoReg, devRead s eflagHiReg] := by
    cases hx; rfl
  rw [htrace] at hk
  match k with
  | 0 => cases hk; exact .inl ⟨rfl, rfl⟩
  | 1 => cases hk; exact .inr ⟨rfl, rfl⟩

/-- Settles O58: the register bytes by `IdealDevice.read_set`, the answers by the number of the transaction. -/
theorem idealDeviceAnswersAsSpecified : Obligations.IdealDeviceAnswersAsSpecified := by
  refine ⟨fun d own reg v q => ?_, fun d own => ⟨?_, fun reg => rfl⟩, fun i s t d failing k e hans hx he => ?_,
    fun d own failing n e es hn he => ?_⟩
  · rw [IdealDevice.take, if_pos rfl]
    exact d.read_set reg v q
  · have houtside : d.set 0xA5#8 0x5A#8 = d := by
      simp [IdealDevice.set, eflagLoReg, eflagHiReg, Vector.setIfInBounds, Array.setIfInBounds]
    rw [IdealDevice.take, houtside, ite_self]
  · obtain ⟨_, _, hcount, _⟩ := everyTransactionTakesOneAnswer i s t hx
    have hk : k < 17 := (List.getElem?_eq_some_iff.mp he).1.trans_le hcount
    refine ⟨fun hmem => ?_, fun hmem => ⟨(IdealDevice.answerAt_succeeded hans hk).mpr hmem, ?_⟩⟩
    · rw [IdealDevice.answerAt hans hk, if_pos hmem]
    · rintro dev reg rfl
      rw [IdealDevice.answerAt hans hk, if_neg hmem]
      rcases read_cases_of_trace hx he with ⟨rfl, rfl⟩ | ⟨rfl, rfl⟩ <;> rfl
  · simp [IdealDevice.after, hn, he]

/-! ### The ideal device and the machine's register file -/

/-- The ideal device and the register file of the machine hold the same in the registers `0x00` to `0x17`. -/
def IdealDevice.Agrees (d : IdealDevice) (s : State) : Prop :=
  ∀ r : Byte, r.toNat ≤ 0x17 → d.read r = some (s.readDevice s.params.devAddr r)

/-- Both take a write to the own device alike. -/
theorem IdealDevice.Agrees.wrote {d : IdealDevice} {s : State} (h : d.Agrees s) (reg v : Byte) :
    (d.take s.params.devAddr (devWrite s reg v)).Agrees (wrote reg v s) := by
  intro r hr
  obtain ⟨hlo, hhi⟩ := ne_flagReg_of_le hr
  have hflag : isFlagReg r = false := by simp [isFlagReg, hlo, hhi]
  have htake : d.take s.params.devAddr (devWrite s reg v) = d.set reg v := if_pos rfl
  rw [htake, d.read_set, h r hr]
  refine Eq.trans ?_ (congrArg some (readDevice_wrote hflag reg v s).symm)
  by_cases hreg : reg = r <;> simp [hreg, hr]

/-- Both take the line reset alike: the registers are at their defaults (R172, log 22). -/
theorem IdealDevice.agrees_prep_lineReset {d : IdealDevice} (s : State) :
    (d.lineReset s.params.devAddr).Agrees (CmdStep.lineReset.prep s) := by
  intro r hr
  rw [d.read_lineReset _ hr, CmdStep.prep_params, readDevice_prep_lineReset, if_pos rfl]

/-- In `u`, at most 17 transactions into a command, the register file agrees with what the ideal device has become. -/
def State.AgreesWithin (d : IdealDevice) (own : DevAddr) (failing : List Nat) (u : State) : Prop :=
  transactions u.trace ≤ 17 → (d.after own failing 0 u.trace).Agrees u

section Agreement

variable {i : Instr} {s t u : State} {d : IdealDevice} {failing : List Nat}

/-- The device after a line pulse is the device reset: none of the three events is a transaction. -/
theorem IdealDevice.after_linePulse (own : DevAddr) (s : State) :
    d.after own failing 0 (linePulse s).trace = (d.after own failing 0 s.trace).lineReset own := by
  have htrace : (linePulse s).trace =
      ((s.trace ++ [.line .inactive]) ++ [.hold s.params.tResetMin]) ++ [.line .active] := rfl
  rw [htrace]
  simp only [IdealDevice.after_snoc, isTransaction_line, isTransaction_hold, Bool.false_and, IdealDevice.take]
  rfl

/-- Before its write a step leaves both devices, or resets both. -/
theorem State.AgreesWithin.prep (h : u.AgreesWithin d u.params.devAddr failing) (op : CmdStep) :
    (op.prep u).AgreesWithin d u.params.devAddr failing := by
  cases op with
  | lineReset =>
    intro _
    have hafter := IdealDevice.after_linePulse (d := d) (failing := failing) u.params.devAddr u
    exact hafter ▸ IdealDevice.agrees_prep_lineReset u
  | _ => exact h

variable (hans : ∀ n, n < 17 → s.answers[n]? = (d.answers failing)[n]?)
  (hu : u.AgreesWithin d s.params.devAddr failing)

include hans hu

/-- A write that succeeds is not named as failing, so both devices take it. -/
theorem State.AgreesWithin.wrote (hown : u.params = s.params) (reg v : Byte)
    (hok : (s.answerAt (transactions u.trace)).succeeded = true) :
    (wrote reg v u).AgreesWithin d s.params.devAddr failing := by
  intro hcount
  rw [transactions_wrote] at hcount
  have hnot : transactions u.trace ∉ failing := (IdealDevice.answerAt_succeeded hans (by omega)).mp hok
  have htrace : (Machine.wrote reg v u).trace = u.trace ++ [devWrite u reg v] := rfl
  have htaken := (hu (by omega)).wrote reg v
  rw [hown] at htaken
  rw [htrace, IdealDevice.after_snoc]
  simpa [hnot] using htaken

/-- A write that fails is named as failing: it reaches neither device. -/
theorem State.AgreesWithin.failedWrite (reg v : Byte) {r : Bool} (hfail : s.answerAt (transactions u.trace) = .fail r) :
    (failedWrite r reg v u).AgreesWithin d s.params.devAddr failing := by
  intro hcount
  rw [failedWrite_trace, transactions_append] at hcount
  have hlt : transactions u.trace < 17 := by simpa [devWrite] using hcount
  have hmem : transactions u.trace ∈ failing := by
    by_contra hnot
    have hok := (IdealDevice.answerAt_succeeded hans hlt).mpr hnot
    rw [hfail] at hok
    cases hok
  obtain rfl : r = false := by
    rw [IdealDevice.answerAt hans hlt, if_pos hmem] at hfail
    cases hfail; rfl
  have hafter : d.after s.params.devAddr failing 0 (Machine.failedWrite false reg v u).trace =
      d.after s.params.devAddr failing 0 u.trace := by
    rw [failedWrite_trace, IdealDevice.after_snoc]
    simp [hmem, devWrite]
  rw [hafter]
  exact hu (by omega)

end Agreement

/-- Over every command but BUSRESET the ideal device and the register file stay equal. -/
theorem IdealDevice.Agrees.exec {i : Instr} {s t : State} {d : IdealDevice} {failing : List Nat}
    (hans : ∀ n, n < 17 → s.answers[n]? = (d.answers failing)[n]?) (h : d.Agrees s) (hbus : i ≠ .busreset)
    (hx : exec i s = .next t) : (d.after s.params.devAddr failing 0 t.trace).Agrees t := by
  cases hops : commandSteps s.params.hasResetLine i with
  | none =>
    rcases commandSteps_eq_none hops with rfl | rfl | rfl
    · have hafter : d.after s.params.devAddr failing 0 [devRead s eflagLoReg, devRead s eflagHiReg] = d := by
        simp [IdealDevice.after, IdealDevice.take, devRead]
      cases hx
      intro r hr
      exact (congrArg (IdealDevice.read · r) hafter).trans (h r hr)
    · cases hx; exact h
    · exact absurd rfl hbus
  | some ops =>
    obtain ⟨_, _, hcount, _⟩ := everyTransactionTakesOneAnswer i s t hx
    have houtcome := runSteps_outcome (s0 := s) (ops := ops) (P := State.AgreesWithin d s.params.devAddr failing)
      (Q := State.AgreesWithin d s.params.devAddr failing)
      (fun op _ u hacc hu => hacc.params ▸ State.AgreesWithin.prep (hacc.params.symm ▸ hu) op)
      (fun u reg v hacc hok hu => hu.wrote hans hacc.params reg v hok)
      (fun u reg v r hacc hfail hu => hu.failedWrite hans reg v hfail)
      (State.Accounts.beginCommand s) (fun _ => h)
    rw [exec_eq_runSteps hops] at hx
    rcases houtcome with ⟨u, hrun, hu⟩ | ⟨u, hrun, hu⟩
    · rw [hrun] at hx
      cases hx; exact hu hcount
    · rw [hrun] at hx
      cases hx; exact hu hcount

/-- Every arm is one command, which leaves a next state (R199). -/
theorem exec_eq_next (i : Instr) (s : State) : ∃ t, exec i s = .next t := by
  cases i <;> exact ⟨_, rfl⟩

/-- One word alone is a BUSRESET (R83, R84). -/
theorem eq_of_decode_busreset {w : CmdWord} (h : decode w = .ok .busreset) : w = 0xA0A55A#24 := by
  unfold decode at h
  split at h
  case h_11 hop =>
    simp only [formatK, ifZero_ok] at h
    obtain ⟨hch, h⟩ := h
    split at h
    · rename_i hkey
      have hop' : opField w = 0xA#4 := BitVec.eq_of_toNat_eq hop
      rw [← cmdWord_fields w, hop', hch, hkey.1, hkey.2]
      rfl
    · cases h
  all_goals simp [formatN, formatCS, ifZero_ok] at h

/-- Settles O59: a refused word changes neither device, and a decoded one is a command other than BUSRESET. -/
theorem idealDeviceAgreesWithRegisterFile : Obligations.IdealDeviceAgreesWithRegisterFile := by
  intro s d failing w h hw
  have hrun {t : State} (hstep : step (s.present w (d.answers failing)) = .next t) :
      idealRun s d failing w = (t, d.after s.params.devAddr failing 0 t.trace) := by
    simp only [idealRun, hstep]
  rcases step_cases (s.present w (d.answers failing)) with ⟨hin, _⟩ | ⟨_, hin, _⟩ | ⟨_, _, i, hin, hdec, hstep⟩ |
    ⟨_, _, _, hin, _, hstep⟩
  all_goals cases hin
  · obtain ⟨t, hx⟩ := exec_eq_next i { s.present w (d.answers failing) with inputs := s.inputs }
    obtain ⟨_, _, _, _, hparams⟩ := everyTransactionTakesOneAnswer i _ t hx
    change t.params = s.params at hparams
    have hbus : i ≠ .busreset := by rintro rfl; exact hw (eq_of_decode_busreset hdec)
    have hagrees : (d.after s.params.devAddr failing 0 t.trace).Agrees t :=
      IdealDevice.Agrees.exec (s := { s.present w (d.answers failing) with inputs := s.inputs }) (fun _ _ => rfl) h
        hbus hx
    rw [hrun (hstep.trans hx)]
    exact ⟨hparams, fun r hr => hparams ▸ hagrees r hr⟩
  · rw [hrun hstep]
    exact ⟨rfl, h⟩

end Sys2Proof.Machine

/-! The statements of 30_encoding.md. Encoder and decoder agree both ways (`decode_encode`, `encode_of_decode`), and the
match and mask table is read field by field (`and_eq_iff_fields`), so a row says which fields a word has. The assembler
reads mnemonic and operands back as lists of plain characters. Every write in a trace comes from a step of its command
(`write_cases_of_trace`), which names the command and the byte. -/

namespace Sys2Proof.Machine

/-! ### The formats of the decoder (R81) -/

theorem formatN_ok {w : CmdWord} {i j : Instr} :
    formatN w i = .ok j ↔ chField w = 0#4 ∧ aField w = 0#8 ∧ bField w = 0#8 ∧ i = j := by
  simp [formatN, ifZero_ok]

/-- The two low bits of `a` are the state of format CS when the six above are zero. -/
theorem setWidth_low_two_bits : ∀ a : Byte, a.extractLsb' 2 6 = 0#6 → (a.extractLsb' 0 2).setWidth 8 = a := by decide

theorem formatCS_ok {w : CmdWord} {i : Instr} (h : formatCS w = .ok i) :
    bField w = 0#8 ∧ ∃ st, (chanStateCode st).setWidth 8 = aField w ∧ i = .setstate (chField w) st := by
  simp only [formatCS, ifZero_ok, Except.ok.injEq] at h
  obtain ⟨hhigh, hb, rfl⟩ := h
  exact ⟨hb, _, by rw [chanStateCode_ofCode, setWidth_low_two_bits _ hhigh], rfl⟩

theorem formatK_ok {w : CmdWord} {i : Instr} :
    formatK w = .ok i ↔ chField w = 0#4 ∧ aField w = 0xA5#8 ∧ bField w = 0x5A#8 ∧ i = .busreset := by
  by_cases hkey : aField w = 0xA5#8 ∧ bField w = 0x5A#8
  · simp [formatK, ifZero_ok, hkey, eq_comm (a := Instr.busreset)]
  · simp only [formatK, ifZero_ok, if_neg hkey, reduceCtorEq, and_false, false_iff]
    rintro ⟨_, ha, hb, _⟩
    exact hkey ⟨ha, hb⟩

/-! ### Encoder and decoder agree (R83, R87) -/

/-- The state field of the word of SETSTATE: its six high bits are zero, the two low ones the code. -/
theorem stateField_chanStateCode (st : ChanState) :
    ((chanStateCode st).setWidth 8).extractLsb' 2 6 = 0#6 ∧
    chanStateOfCode (((chanStateCode st).setWidth 8).extractLsb' 0 2) = st := by
  cases st <;> decide

/-- SETSTATE's word decodes to it; the words of the pseudo-instructions are such words (R87). -/
theorem decode_setstate (c : Channel) (st : ChanState) :
    decode (cmdWord 0x2#4 c ((chanStateCode st).setWidth 8) 0#8) = .ok (.setstate c st) := by
  obtain ⟨hhigh, hlow⟩ := stateField_chanStateCode st
  simp [decode, formatCS, ifZero_ok, hhigh, hlow]

theorem decode_encode (i : Instr) : decode (encode i) = .ok (expandPseudo i) := by
  cases i with
  | setstate c st => exact decode_setstate c st
  | turnoff c => exact decode_setstate c .off
  | turnon c => exact decode_setstate c .on
  | setpwm c => exact decode_setstate c .pwm
  | setduty c d => simp [encode, decode, expandPseudo, ifZero_ok]
  | assigngrp c => simp [encode, decode, expandPseudo, ifZero_ok]
  | grpduty d => simp [encode, decode, expandPseudo, ifZero_ok]
  | grpblink f d => simp [encode, decode, expandPseudo, ifZero_ok]
  | enable => rfl
  | reset => rfl
  | chkerr => rfl
  | descerr => rfl
  | clrerr => rfl
  | busreset => rfl

/-- Settles O1: one word for each constructor, `decode_encode`; a core instruction is its own expansion. -/
theorem encodedInstructionDecodesBack : Obligations.EncodedInstructionDecodesBack := by
  refine ⟨decode_encode, fun c => ⟨rfl, rfl, rfl⟩, fun i hcore => ?_⟩
  cases i with
  | turnoff c => exact absurd rfl (hcore c).1
  | turnon c => exact absurd rfl (hcore c).2.1
  | setpwm c => exact absurd rfl (hcore c).2.2
  | _ => rfl

/-- The word with the fields that an opcode and its format leave. -/
theorem eq_cmdWord {w : CmdWord} {op : BitVec 4} {ch : Channel} {a b : Byte} (hop : opField w = op)
    (hch : chField w = ch) (ha : aField w = a) (hb : bField w = b) : cmdWord op ch a b = w := by
  rw [← hop, ← hch, ← ha, ← hb, cmdWord_fields]

theorem encode_of_decode {w : CmdWord} {i : Instr} (h : decode w = .ok i) : encode i = w := by
  have hop {n : Nat} (hn : (opField w).toNat = n) : opField w = BitVec.ofNat 4 n := by
    rw [← hn, BitVec.ofNat_toNat, BitVec.setWidth_eq]
  unfold decode at h
  split at h
  case h_1 hn | h_2 hn | h_8 hn | h_9 hn | h_10 hn =>
    obtain ⟨hch, ha, hb, rfl⟩ := formatN_ok.mp h
    exact eq_cmdWord (hop hn) hch ha hb
  case h_3 hn => obtain ⟨hb, st, hst, rfl⟩ := formatCS_ok h; exact eq_cmdWord (hop hn) rfl hst.symm hb
  case h_4 hn =>
    obtain ⟨hb, heq⟩ := ifZero_ok.mp h
    cases heq; exact eq_cmdWord (hop hn) rfl rfl hb
  case h_5 hn =>
    simp only [ifZero_ok] at h
    obtain ⟨ha, hb, heq⟩ := h
    cases heq; exact eq_cmdWord (hop hn) rfl ha hb
  case h_6 hn =>
    simp only [ifZero_ok] at h
    obtain ⟨hch, hb, heq⟩ := h
    cases heq; exact eq_cmdWord (hop hn) hch rfl hb
  case h_7 hn =>
    obtain ⟨hch, heq⟩ := ifZero_ok.mp h
    cases heq; exact eq_cmdWord (hop hn) hch rfl rfl
  case h_11 hn => obtain ⟨hch, ha, hb, rfl⟩ := formatK_ok.mp h; exact eq_cmdWord (hop hn) hch ha hb
  case h_12 => cases h

/-- Settles O2: each format of the decoder checks or keeps every field of the word. -/
theorem decodedWordEncodesBack : Obligations.DecodedWordEncodesBack := fun _ _ h => encode_of_decode h

/-! ### The match and mask table (R83) -/

/-- A masked word equals the match bits when each field does. -/
theorem and_eq_iff_fields (w k m : CmdWord) :
    w &&& k = m ↔ opField w &&& opField k = opField m ∧ chField w &&& chField k = chField m ∧
      aField w &&& aField k = aField m ∧ bField w &&& bField k = bField m := by
  have h := cmdWord_and (opField w) (opField k) (chField w) (chField k) (aField w) (aField k) (bField w) (bField k)
  rw [cmdWord_fields, cmdWord_fields] at h
  conv_lhs => rw [h, ← cmdWord_fields m]
  exact cmdWord_inj

/-- Every row masks the whole opcode, and the match bits are the opcode's own. -/
theorem opField_eq_of_row {r : OpcodeRow} (hr : r ∈ opcodeRows) {w : CmdWord} (h : w &&& r.mask = r.matchBits) :
    opField w = opField r.matchBits := by
  have hmask : ∀ r ∈ opcodeRows, opField r.mask = BitVec.allOnes 4 := by decide
  obtain ⟨hop, _⟩ := (and_eq_iff_fields _ _ _).mp h
  rwa [hmask r hr, BitVec.and_allOnes] at hop

/-- Settles O4: two rows that select a word have its opcode, and no two rows share an opcode. -/
theorem opcodeRowsDisjoint : Obligations.OpcodeRowsDisjoint := by
  intro w r hr r' hr' hw hw'
  have hdistinct : ∀ r ∈ opcodeRows, ∀ r' ∈ opcodeRows, opField r.matchBits = opField r'.matchBits →
      r = r' := by decide
  have hop := opField_eq_of_row hr (beq_iff_eq.mp hw)
  have hop' := opField_eq_of_row hr' (beq_iff_eq.mp hw')
  exact hdistinct r hr r' hr' (hop.symm.trans hop')

/-- The command word of every instruction selects a row (R83, R87). -/
theorem legalWord_encode (i : Instr) : legalWord (encode i) = true := by
  cases i with
  | enable => exact Laws.EncodesLegal.enable
  | reset => exact Laws.EncodesLegal.reset
  | setstate c st => exact Laws.EncodesLegal.setstate c st
  | setduty c d => exact Laws.EncodesLegal.setduty c d
  | assigngrp c => exact Laws.EncodesLegal.assigngrp c
  | grpduty d => exact Laws.EncodesLegal.grpduty d
  | grpblink f d => exact Laws.EncodesLegal.grpblink f d
  | chkerr => exact Laws.EncodesLegal.chkerr
  | descerr => exact Laws.EncodesLegal.descerr
  | clrerr => exact Laws.EncodesLegal.clrerr
  | busreset => exact Laws.EncodesLegal.busreset
  | turnoff c => exact Laws.EncodesLegal.turnoff c
  | turnon c => exact Laws.EncodesLegal.turnon c
  | setpwm c => exact Laws.EncodesLegal.setpwm c

/-- The state byte of a word that SETSTATE's row selects is the code of a channel state. -/
theorem exists_chanStateCode {a : Byte} (h : a &&& 0xFC#8 = 0#8) : ∃ st, (chanStateCode st).setWidth 8 = a := by
  have hhigh : a.extractLsb' 2 6 = 0#6 := by revert a; decide
  exact ⟨chanStateOfCode (a.extractLsb' 0 2), by rw [chanStateCode_ofCode, setWidth_low_two_bits a hhigh]⟩

theorem eq_of_and_allOnes {n : Nat} {x k m : BitVec n} (h : x &&& k = m) (hk : k = BitVec.allOnes n) : x = m := by
  rwa [hk, BitVec.and_allOnes] at h

/-- A word that a row selects is the command word of an instruction of that row: a field that the row masks whole is
the row's, one that it leaves open is an operand. -/
theorem exists_encode_of_row {r : OpcodeRow} (hr : r ∈ opcodeRows) {w : CmdWord} (h : w &&& r.mask = r.matchBits) :
    ∃ i, encode i = w := by
  have hop := opField_eq_of_row hr h
  obtain ⟨_, hch, ha, hb⟩ := (and_eq_iff_fields _ _ _).mp h
  have hch := eq_of_and_allOnes hch
  have hb := eq_of_and_allOnes hb
  simp only [opcodeRows, List.mem_cons, List.not_mem_nil, or_false] at hr
  rcases hr with rfl | rfl | rfl | rfl | rfl | rfl | rfl | rfl | rfl | rfl | rfl
  · exact ⟨.enable, eq_cmdWord hop (hch rfl) (eq_of_and_allOnes ha rfl) (hb rfl)⟩
  · exact ⟨.reset, eq_cmdWord hop (hch rfl) (eq_of_and_allOnes ha rfl) (hb rfl)⟩
  · obtain ⟨st, hst⟩ := exists_chanStateCode ha
    exact ⟨.setstate (chField w) st, eq_cmdWord hop rfl hst.symm (hb rfl)⟩
  · exact ⟨.setduty (chField w) (aField w), eq_cmdWord hop rfl rfl (hb rfl)⟩
  · exact ⟨.assigngrp (chField w), eq_cmdWord hop rfl (eq_of_and_allOnes ha rfl) (hb rfl)⟩
  · exact ⟨.grpduty (aField w), eq_cmdWord hop (hch rfl) rfl (hb rfl)⟩
  · exact ⟨.grpblink (aField w) (bField w), eq_cmdWord hop (hch rfl) rfl rfl⟩
  · exact ⟨.chkerr, eq_cmdWord hop (hch rfl) (eq_of_and_allOnes ha rfl) (hb rfl)⟩
  · exact ⟨.descerr, eq_cmdWord hop (hch rfl) (eq_of_and_allOnes ha rfl) (hb rfl)⟩
  · exact ⟨.clrerr, eq_cmdWord hop (hch rfl) (eq_of_and_allOnes ha rfl) (hb rfl)⟩
  · exact ⟨.busreset, eq_cmdWord hop (hch rfl) (eq_of_and_allOnes ha rfl) (hb rfl)⟩

/-- Settles O3: a word that decodes is a command word, which selects a row; a word that a row selects is a command word,
which decodes. -/
theorem decoderAcceptsExactlyTheTableRows : Obligations.DecoderAcceptsExactlyTheTableRows := by
  intro w
  constructor
  · rintro ⟨i, hdecode⟩
    obtain ⟨r, hr, hselects⟩ := List.any_eq_true.mp (legalWord_encode i)
    rw [encode_of_decode hdecode] at hselects
    exact ⟨r, hr, beq_iff_eq.mp hselects⟩
  · rintro ⟨r, hr, hselects⟩
    obtain ⟨i, rfl⟩ := exists_encode_of_row hr hselects
    exact ⟨expandPseudo i, decode_encode i⟩

/-- Settles O8: of what a step can do, a word that the decoder refuses leaves one, the refusal. -/
theorem illegalWordOnlyResponds : Obligations.IllegalWordOnlyResponds := by
  intro s w rest hinputs hillegal
  rcases step_cases s with ⟨h, _⟩ | ⟨_, h, _⟩ | ⟨_, _, i, h, hdecode, _⟩ | ⟨_, _, _, h, _, heq⟩
  all_goals rw [hinputs] at h
  all_goals cases h
  · obtain ⟨r, hr, hselects⟩ := (decoderAcceptsExactlyTheTableRows w).mp ⟨i, hdecode⟩
    exact absurd hselects (hillegal r hr)
  · exact heq

/-- Settles O17: each pseudo-instruction runs `setChannel` with its state, and its word carries that state's code. -/
theorem pseudoInstructionsAreSetstate : Obligations.PseudoInstructionsAreSetstate :=
  fun _ _ => ⟨⟨rfl, rfl⟩, ⟨rfl, rfl⟩, ⟨rfl, rfl⟩⟩

/-! ### The assembler's text (R86, R87) -/

/-- A character that a mnemonic or an operand is made of: no blank, no comma, not the start of a comment. -/
def plainChar (c : Char) : Bool := !isBlank c && c != ',' && c != ';'

/-- A mnemonic or an operand of a line. -/
def PlainText (l : List Char) : Prop := l ≠ [] ∧ ∀ c ∈ l, plainChar c = true

/-- A text that neither begins nor ends with a blank. -/
def Trimmed (l : List Char) : Prop :=
  (∀ c ∈ l.head?, isBlank c = false) ∧ ∀ c ∈ l.getLast?, isBlank c = false

/-- The check of a closed text. -/
theorem plainText_of_all {l : List Char} (h : (!l.isEmpty && l.all plainChar) = true) : PlainText l := by
  simpa [PlainText] using h

theorem plainChar_iff {c : Char} : plainChar c = true ↔ isBlank c = false ∧ c ≠ ',' ∧ c ≠ ';' := by
  simp [plainChar, and_assoc]

theorem PlainText.trimmed {l : List Char} (h : PlainText l) : Trimmed l :=
  ⟨fun c hc => (plainChar_iff.mp (h.2 c (List.mem_of_mem_head? hc))).1,
    fun c hc => (plainChar_iff.mp (h.2 c (List.mem_of_mem_getLast? hc))).1⟩

theorem PlainText.no_comma {l : List Char} (h : PlainText l) : ',' ∉ l :=
  fun hc => (plainChar_iff.mp (h.2 _ hc)).2.1 rfl

theorem PlainText.no_semicolon {l : List Char} (h : PlainText l) : ';' ∉ l :=
  fun hc => (plainChar_iff.mp (h.2 _ hc)).2.2 rfl

theorem Trimmed.append {a b : List Char} (ha : Trimmed a) (hb : Trimmed b) (hane : a ≠ []) (hbne : b ≠ [])
    (mid : List Char) : Trimmed (a ++ mid ++ b) := by
  refine ⟨fun c hc => ha.1 c ?_, fun c hc => hb.2 c ?_⟩
  · rwa [List.append_assoc, List.head?_append_of_ne_nil _ hane] at hc
  · rwa [List.getLast?_append_of_ne_nil _ hbne] at hc

theorem dropWhile_isBlank_of_head {l : List Char} (h : ∀ c ∈ l.head?, isBlank c = false) :
    l.dropWhile isBlank = l := by
  cases l with
  | nil => rfl
  | cons c l => exact List.dropWhile_cons_of_neg (by simp [h c rfl])

theorem trim_of_trimmed {l : List Char} (h : Trimmed l) : trim l = l := by
  have hback : l.reverse.dropWhile isBlank = l.reverse :=
    dropWhile_isBlank_of_head (by simpa [List.head?_reverse] using h.2)
  rw [trim, dropWhile_isBlank_of_head h.1, hback, List.reverse_reverse]

theorem trim_blank_cons (l : List Char) : trim (' ' :: l) = trim l := rfl

theorem uncomment_of_no_semicolon {l : List Char} (h : ';' ∉ l) : uncomment l = l :=
  List.takeWhile_eq_self_iff.mpr fun c hc => by
    simp only [bne_iff_ne, ne_eq]
    rintro rfl
    exact h hc

/-! ### Operands between commas -/

theorem splitCommas_comma (l : List Char) : splitCommas (',' :: l) = [] :: splitCommas l := by
  have hne : splitCommas l ≠ [] := by
    cases l with
    | nil => simp [splitCommas]
    | cons c l =>
      unfold splitCommas
      split
      · simp
      · split <;> simp
  obtain ⟨w, ws, h⟩ := List.exists_cons_of_ne_nil hne
  simp [splitCommas, h]

theorem splitCommas_cons {c : Char} {l w : List Char} {ws : List (List Char)} (hc : c ≠ ',')
    (h : splitCommas l = w :: ws) : splitCommas (c :: l) = (c :: w) :: ws := by
  simp only [splitCommas, h, if_neg hc]

theorem splitCommas_of_no_comma {l : List Char} (h : ',' ∉ l) : splitCommas l = [l] := by
  induction l with
  | nil => rfl
  | cons c l ih =>
    obtain ⟨hc, hl⟩ := List.ne_and_not_mem_of_not_mem_cons h
    exact splitCommas_cons (Ne.symm hc) (ih hl)

theorem splitCommas_append {a : List Char} (h : ',' ∉ a) (l : List Char) :
    splitCommas (a ++ ',' :: l) = a :: splitCommas l := by
  induction a with
  | nil => exact splitCommas_comma l
  | cons c a ih =>
    obtain ⟨hc, ha⟩ := List.ne_and_not_mem_of_not_mem_cons h
    exact splitCommas_cons (Ne.symm hc) (ih ha)

/-- One operand after the mnemonic. -/
theorem operands_one {a : List Char} (ha : PlainText a) : operands (' ' :: a) = [' ' :: a] := by
  have hcomma : ',' ∉ ' ' :: a := by simp [ha.no_comma]
  rw [operands, trim_blank_cons, trim_of_trimmed ha.trimmed, if_neg ha.1, splitCommas_of_no_comma hcomma]

/-- Two operands after the mnemonic. -/
theorem operands_two {a b : List Char} (ha : PlainText a) (hb : PlainText b) :
    operands (' ' :: a ++ [',', ' '] ++ b) = [' ' :: a, ' ' :: b] := by
  have hacomma : ',' ∉ ' ' :: a := by simp [ha.no_comma]
  have hbcomma : ',' ∉ ' ' :: b := by simp [hb.no_comma]
  have htrim : trim (' ' :: a ++ [',', ' '] ++ b) = a ++ [',', ' '] ++ b :=
    trim_of_trimmed (ha.trimmed.append hb.trimmed ha.1 hb.1 _)
  rw [operands, htrim, if_neg (by simp), List.append_assoc]
  exact (splitCommas_append hacomma (' ' :: b)).trans (by rw [splitCommas_of_no_comma hbcomma])

/-! ### A line of text -/

/-- A mnemonic and what follows it, neither with a comment in it: the line is the mnemonic's command. -/
theorem asmLine_of_commandOf {m rest : List Char} {i : Instr} (hm : PlainText m) (hrest : ';' ∉ rest)
    (hhead : ∀ c ∈ rest.head?, isBlank c = true) (htrimmed : Trimmed (m ++ rest))
    (hcommand : commandOf m (operands rest) = some i) : asmLine (m ++ rest) = .command i := by
  have huncomment : uncomment (m ++ rest) = m ++ rest :=
    uncomment_of_no_semicolon (by simp [hm.no_semicolon, hrest])
  have hmnemonic : (m ++ rest).takeWhile (fun c => !isBlank c) = m := by
    rw [List.takeWhile_append_of_pos fun c hc => by simp [(plainChar_iff.mp (hm.2 c hc)).1]]
    cases rest with
    | nil => simp
    | cons c rest => simp [hhead c rfl]
  simp only [asmLine, huncomment, trim_of_trimmed htrimmed, hmnemonic, if_neg hm.1, List.drop_left, hcommand]

theorem asmLine_no_operand {m : List Char} {i : Instr} (hm : PlainText m) (hcommand : commandOf m [] = some i) :
    asmLine m = .command i := by
  have h := asmLine_of_commandOf (rest := []) hm (by simp) (by simp) (by simpa using hm.trimmed) hcommand
  rwa [List.append_nil] at h

theorem asmLine_one_operand {m a : List Char} {i : Instr} (hm : PlainText m) (ha : PlainText a)
    (hcommand : commandOf m [' ' :: a] = some i) : asmLine (m ++ [' '] ++ a) = .command i := by
  have htrimmed := hm.trimmed.append ha.trimmed hm.1 ha.1 [' ']
  rw [List.append_assoc] at htrimmed ⊢
  exact asmLine_of_commandOf hm (by simp [ha.no_semicolon]) (by simp [isBlank]) htrimmed
    ((congrArg (commandOf m) (operands_one ha)).trans hcommand)

theorem asmLine_two_operands {m a b : List Char} {i : Instr} (hm : PlainText m) (ha : PlainText a) (hb : PlainText b)
    (hcommand : commandOf m [' ' :: a, ' ' :: b] = some i) :
    asmLine (m ++ [' '] ++ a ++ [',', ' '] ++ b) = .command i := by
  have hshape : m ++ [' '] ++ a ++ [',', ' '] ++ b = m ++ (' ' :: a ++ [',', ' '] ++ b) := by simp
  have htrimmed := hm.trimmed.append hb.trimmed hm.1 hb.1 (' ' :: a ++ [',', ' '])
  rw [List.append_assoc] at htrimmed
  rw [hshape]
  exact asmLine_of_commandOf hm (by simp [ha.no_semicolon, hb.no_semicolon]) (by simp [isBlank]) htrimmed
    ((congrArg (commandOf m) (operands_two ha hb)).trans hcommand)

/-! ### The printed operands -/

theorem channelOperand_decText : ∀ c : Channel, channelOperand (' ' :: decText c.toNat) = some c := by decide

theorem plainText_decText (c : Channel) : PlainText (decText c.toNat) :=
  plainText_of_all (by revert c; decide)

theorem stateOperand_stateText (st : ChanState) : stateOperand (' ' :: stateText st) = some st := by
  cases st <;> rfl

theorem plainText_stateText (st : ChanState) : PlainText (stateText st) := by
  cases st <;> exact plainText_of_all rfl

/-- A hexadecimal digit is read as what it was printed for. -/
theorem hexDigit_hexChar : ∀ n, n < 16 → hexDigit (hexChar n) = some n := by decide

theorem plainChar_hexChar : ∀ n, n < 16 → plainChar (hexChar n) = true := by decide

theorem plainText_byteText (b : Byte) : PlainText (byteText b) := by
  have hb := b.isLt
  have hhigh := plainChar_hexChar (b.toNat / 16) (by omega)
  have hlow := plainChar_hexChar (b.toNat % 16) (by omega)
  have hlead : plainChar '0' = true ∧ plainChar 'x' = true := ⟨rfl, rfl⟩
  exact plainText_of_all (by simp [byteText, hhigh, hlow, hlead])

theorem byteOperand_byteText (b : Byte) : byteOperand (' ' :: byteText b) = some b := by
  have hb := b.isLt
  have hhigh := hexDigit_hexChar (b.toNat / 16) (by omega)
  have hlow := hexDigit_hexChar (b.toNat % 16) (by omega)
  have hvalue : (0 * 16 + b.toNat / 16) * 16 + b.toNat % 16 = b.toNat := by omega
  have hnumber : byteNumber (byteText b) = some b.toNat := by
    simp only [byteText, byteNumber, digits, hhigh, hlow, Option.bind_some, hvalue]
  rw [byteOperand, trim_blank_cons, trim_of_trimmed (plainText_byteText b).trimmed, hnumber]
  simp [fitting, hb]

/-- Settles O6: each operand is read back, and each mnemonic with its operands is the command. -/
theorem assemblerReadsWhatItPrints : Obligations.AssemblerReadsWhatItPrints := by
  intro i
  cases i with
  | enable => exact asmLine_no_operand (plainText_of_all rfl) rfl
  | reset => exact asmLine_no_operand (plainText_of_all rfl) rfl
  | chkerr => exact asmLine_no_operand (plainText_of_all rfl) rfl
  | descerr => exact asmLine_no_operand (plainText_of_all rfl) rfl
  | clrerr => exact asmLine_no_operand (plainText_of_all rfl) rfl
  | busreset => exact asmLine_no_operand (plainText_of_all rfl) rfl
  | turnoff c =>
    exact asmLine_one_operand (m := ['T', 'U', 'R', 'N', 'O', 'F', 'F']) (plainText_of_all rfl) (plainText_decText c)
      (congrArg (Option.map Instr.turnoff) (channelOperand_decText c))
  | turnon c =>
    exact asmLine_one_operand (m := ['T', 'U', 'R', 'N', 'O', 'N']) (plainText_of_all rfl) (plainText_decText c)
      (congrArg (Option.map Instr.turnon) (channelOperand_decText c))
  | setpwm c =>
    exact asmLine_one_operand (m := ['S', 'E', 'T', 'P', 'W', 'M']) (plainText_of_all rfl) (plainText_decText c)
      (congrArg (Option.map Instr.setpwm) (channelOperand_decText c))
  | assigngrp c =>
    exact asmLine_one_operand (m := ['A', 'S', 'S', 'I', 'G', 'N', 'G', 'R', 'P']) (plainText_of_all rfl)
      (plainText_decText c) (congrArg (Option.map Instr.assigngrp) (channelOperand_decText c))
  | grpduty d =>
    exact asmLine_one_operand (m := ['G', 'R', 'P', 'D', 'U', 'T', 'Y']) (plainText_of_all rfl) (plainText_byteText d)
      (congrArg (Option.map Instr.grpduty) (byteOperand_byteText d))
  | setstate c st =>
    have hcommand := congrArg₂ (fun x y => x.bind fun c => y.map fun st => Instr.setstate c st)
      (channelOperand_decText c) (stateOperand_stateText st)
    exact asmLine_two_operands (m := ['S', 'E', 'T', 'S', 'T', 'A', 'T', 'E']) (plainText_of_all rfl)
      (plainText_decText c) (plainText_stateText st) hcommand
  | setduty c d =>
    have hcommand := congrArg₂ (fun x y => x.bind fun c => y.map fun d => Instr.setduty c d)
      (channelOperand_decText c) (byteOperand_byteText d)
    exact asmLine_two_operands (m := ['S', 'E', 'T', 'D', 'U', 'T', 'Y']) (plainText_of_all rfl)
      (plainText_decText c) (plainText_byteText d) hcommand
  | grpblink f d =>
    have hcommand := congrArg₂ (fun x y => x.bind fun f => y.map fun d => Instr.grpblink f d)
      (byteOperand_byteText f) (byteOperand_byteText d)
    exact asmLine_two_operands (m := ['G', 'R', 'P', 'B', 'L', 'I', 'N', 'K']) (plainText_of_all rfl)
      (plainText_byteText f) (plainText_byteText d) hcommand

/-! ### The error family (R151, R152) -/

theorem readAnswer_of_done {s : State} {b : Byte} (h : s.answerAt 0 = .done b) : readAnswer s = some b := by
  simp only [readAnswer, h]

theorem readAnswer_of_failure {s : State} (h : (s.answerAt 0).succeeded = false) : readAnswer s = none := by
  obtain ⟨r, hr⟩ := Answer.exists_fail h
  simp only [readAnswer, hr]

/-- The answer to the second read is the second answer. -/
theorem answerAt_afterRead (reg : Byte) (s : State) (k : Nat) : (afterRead reg s).answerAt k = s.answerAt (k + 1) := by
  simp [afterRead]

/-- Both bytes read: the mask, and Clean or Faulted by it (R94, R150). -/
theorem checkFound_of_done {s : State} {lo hi : Byte} (hlo : s.answerAt 0 = .done lo) (hhi : s.answerAt 1 = .done hi) :
    checkFound s = (statusOfMask (errorMask lo hi), errorMask lo hi) := by
  have hsecond : (afterRead eflagLoReg s).answerAt 0 = .done hi := (answerAt_afterRead _ s 0).trans hhi
  rw [checkFound, readAnswer_of_done hlo, readAnswer_of_done hsecond]
  rfl

/-- A failed read, whichever it is: CommFailure and the sentinel (R151). -/
theorem checkFound_of_failure {s : State}
    (h : (s.answerAt 0).succeeded = false ∨ (s.answerAt 1).succeeded = false) :
    checkFound s = (.commFailure, s.params.commFailSentinel) := by
  rcases h with hlo | hhi
  · rw [checkFound, readAnswer_of_failure hlo]; rfl
  · have hsecond : ((afterRead eflagLoReg s).answerAt 0).succeeded = false := by rwa [answerAt_afterRead]
    rw [checkFound, readAnswer_of_failure hsecond]
    cases readAnswer s <;> rfl

/-- The state CHKERR leaves (R151). -/
def checked (s : State) : State :=
  ((afterRead eflagHiReg (afterRead eflagLoReg s.beginCommand)).setErr (checkFound s)).respond
    (okWord 0#6 (checkResult (checkFound s).1))

theorem exec_chkerr (s : State) : exec .chkerr s = .next (checked s) := execChkerr_eq s

/-- The account of CHKERR: two reads, the error fields, the boolean (R151). -/
theorem ran_checked (s : State) {st : ErrStatus} {m : Mask16} (hfound : checkFound s = (st, m)) :
    Ran s (checked s) { s.block with errStatus := st, errMask := m } [devRead s 0x1D#8, devRead s 0x1E#8]
      (okWord 0#6 (checkResult st)) := by
  have hreads := ((accounts_kept s).afterRead eflagHiReg
    ((accounts_kept s).afterRead eflagLoReg (State.Accounts.beginCommand s)))
  refine ⟨?_, rfl, ?_, rfl, rfl, hreads.answers, hreads.issued⟩
  · simp [checked, hfound]
  · simp [checked, hfound]

/-- Reads and error fields are no part of the device register space (R71). -/
theorem readDevice_checked (s : State) (d : DevAddr) (r : Byte) : (checked s).readDevice d r = s.readDevice d r := rfl

theorem statusOfMask_eq_clean (m : Mask16) : statusOfMask m = .clean ↔ m = 0xFFFF#16 := by
  by_cases hm : m = 0xFFFF#16 <;> simp [statusOfMask, noErrors, hm]

theorem okWord_checkResult_statusOfMask (m : Mask16) :
    okWord 0#6 (checkResult (statusOfMask m)) = if m = 0xFFFF#16 then 0x000000#24 else 0x000001#24 := by
  simp only [checkResult, statusOfMask_eq_clean]
  split <;> rfl

/-- Settles O26: what CHKERR finds decides the error fields and the response; the rest is the account of two reads. -/
theorem chkerrCompletes : Obligations.ChkerrCompletes := by
  intro s
  refine ⟨checked s, exec_chkerr s, fun lo hi hlo hhi => ?_, fun hfail => ?_, readDevice_checked s⟩
  · have hran := ran_checked s (checkFound_of_done hlo hhi)
    rwa [okWord_checkResult_statusOfMask] at hran
  · exact ran_checked s (checkFound_of_failure hfail)

/-- The low byte of the mask is the first byte read (R64, R94). -/
theorem getLsbD_errorMask_low (lo hi : Byte) {i : Nat} (h : i < 8) : (errorMask lo hi).getLsbD i = lo.getLsbD i := by
  simp [errorMask, h, show i < 16 by omega]

/-- The high byte of the mask is the second byte read (R64, R94). -/
theorem getLsbD_errorMask_high (lo hi : Byte) {i : Nat} (h : i < 8) :
    (errorMask lo hi).getLsbD (8 + i) = hi.getLsbD i := by
  simp [errorMask, h, show 8 + i < 16 by omega]

/-- DESCERR's vector after a check that read both bytes is the complement of the mask, Clean or not (R28, R152). -/
theorem faultedVector_statusOfMask (m : Mask16) : faultedVector (statusOfMask m) m = ~~~m := by
  by_cases hm : m = 0xFFFF#16
  · subst hm; rfl
  · rw [statusOfMask, if_neg (show ¬ m = noErrors from hm)]; rfl

/-- In every state but Faulted DESCERR lists no channel (R152). -/
theorem faultedVector_of_ne_faulted {st : ErrStatus} (h : st ≠ .faulted) (m : Mask16) : faultedVector st m = 0#16 :=
  if_neg h

/-- The state DESCERR leaves (R152). -/
theorem exec_descerr (s : State) : exec .descerr s = .next (s.beginCommand.respond
    (okWord (reportKind s.block.errStatus) (faultedVector s.block.errStatus s.block.errMask))) := rfl

/-- Settles O27: the bits of the mask by the byte they come from; DESCERR lists its complement. -/
theorem errorMaskAssembly : Obligations.ErrorMaskAssembly := by
  intro s t u lo hi w hlo hhi hcheck hdesc hw
  rw [exec_chkerr] at hcheck
  cases hcheck
  rw [exec_descerr] at hdesc
  cases hdesc
  obtain ⟨hblock, htrace, _⟩ := ran_checked s (checkFound_of_done hlo hhi)
  rw [State.respond_response, hblock] at hw
  cases hw
  rw [hblock]
  refine ⟨htrace, rfl, fun i => getLsbD_errorMask_low lo hi, fun i => getLsbD_errorMask_high lo hi, fun i hi16 => ?_,
    statusOfMask_eq_clean _⟩
  rw [getLsbD_okWord hi16, faultedVector_statusOfMask]
  simp [hi16]

/-- DESCERR changes nothing but trace and response (R152). -/
theorem ran_descerr {s : State} {w : CmdWord}
    (hw : okWord (reportKind s.block.errStatus) (faultedVector s.block.errStatus s.block.errMask) = w) :
    Ran s (s.beginCommand.respond
      (okWord (reportKind s.block.errStatus) (faultedVector s.block.errStatus s.block.errMask))) s.block [] w :=
  ⟨rfl, rfl, congrArg some hw, rfl, rfl, rfl, rfl⟩

/-- Settles O29: one report for each of the four states. -/
theorem descerrReports : Obligations.DescerrReports := by
  intro s
  refine ⟨_, exec_descerr s, fun h => ran_descerr ?_, fun h => ran_descerr ?_, fun h => ran_descerr ?_,
    fun h => ran_descerr ?_, fun _ _ => rfl⟩
  · rw [h]; rfl
  all_goals rw [h, faultedVector_of_ne_faulted (by decide)]; rfl

/-! ### The group-mode commands with successful writes (R131, R132) -/

/-- A command made of writes, none of them the line reset's, whose transactions all succeed. A step without a write
takes no answer. -/
theorem exec_completes {i : Instr} {s u : State} {ops : List CmdStep} {n : Nat}
    (hops : commandSteps s.params.hasResetLine i = some ops) (hu : doneSteps ops s.beginCommand = u)
    (hn : transactions u.trace = n) (hs : s.succeeds n) (hline : .lineReset ∉ ops) :
    ∃ t, exec i s = .next t ∧ Ran s t u.block u.trace 0x000000#24 ∧ DeviceFollows s t u.trace := by
  subst hu hn
  have hdone := runSteps_eq_cont ops (State.Accounts.beginCommand s) hs
  refine ⟨_, ?_, ran_doneSteps ops s, doneSteps_device s hline⟩
  rw [exec_eq_runSteps hops, hdone]
  rfl

/-- Settles O22: the mode write is a step of its own from Blink, and no transaction from PwmDutyOnly. -/
theorem grpdutyCompletes : Obligations.GrpdutyCompletes := by
  intro s d
  refine ⟨fun hmode hs => ?_, fun hmode hs => ?_⟩
  · have hother : s.beginCommand.block.groupMode ≠ .pwmDutyOnly := by simp [hmode]
    exact exec_completes (i := .grpduty d) rfl
      (congrArg (wrote grpDutyReg d) (CmdStep.done_switch_other hother)) rfl hs (by simp)
  · exact exec_completes (i := .grpduty d) rfl
      (congrArg (wrote grpDutyReg d) (CmdStep.done_switch_same (s := s.beginCommand) hmode)) rfl hs (by simp)

/-- Settles O23: the mode write stands between duty and frequency from PwmDutyOnly, and is no transaction from Blink. -/
theorem grpblinkCompletes : Obligations.GrpblinkCompletes := by
  intro s f d
  refine ⟨fun hmode hs => ?_, fun hmode hs => ?_⟩
  · have hother : (wrote grpDutyReg d s.beginCommand).block.groupMode ≠ .blink := by simp [wrote, hmode]
    exact exec_completes (i := .grpblink f d) rfl
      (congrArg (wrote grpFreqReg f) (CmdStep.done_switch_other hother)) rfl hs (by simp)
  · exact exec_completes (i := .grpblink f d) rfl
      (congrArg (wrote grpFreqReg f) (CmdStep.done_switch_same (s := wrote grpDutyReg d s.beginCommand) hmode)) rfl hs
      (by simp)

/-! ### Which step a write of the trace comes from -/

/-- Every write that stands in the trace of `u` is one that a step of `ops` made, from a state where `P` held. -/
def State.WritesComeFrom (ops : List CmdStep) (P : State → Prop) (u : State) : Prop :=
  ∀ d reg v, Event.write d reg v ∈ u.trace → ∃ op ∈ ops, ∃ u', P u' ∧ op.payload u' = some (reg, v)

theorem CmdStep.run_writesComeFrom {ops : List CmdStep} {P : State → Prop} {op : CmdStep} {u : State} (hop : op ∈ ops)
    (hP : P u) (hu : u.WritesComeFrom ops P) : (op.run u).state.WritesComeFrom ops P := by
  have hprep : (op.prep u).WritesComeFrom ops P := by
    intro d reg v hmem
    rcases CmdStep.mem_prep_trace hmem with hold | hno
    · exact hu d reg v hold
    · cases hno
  rcases op.run_done_eq u with ⟨hrun, _⟩ | ⟨reg, v, hpay, hrun, _⟩
  · rw [hrun]; exact hprep
  · obtain ⟨_, _, htrace⟩ := memWrite_state reg v (op.prep u)
    intro d reg' v' hmem
    rw [hrun, htrace] at hmem
    rcases List.mem_append.mp hmem with hold | hnew
    · exact hprep d reg' v' hold
    · cases List.mem_singleton.mp hnew
      exact ⟨op, hop, u, hP, hpay⟩

/-- All a write in the trace of a command can be: the broadcast of BUSRESET, or what a step of the command writes from a
state where `P` holds, if `P` holds at the start and every step keeps it. -/
theorem write_cases_of_trace {i : Instr} {s t : State} {d : DevAddr} {reg v : Byte} (hx : exec i s = .next t)
    (hmem : .write d reg v ∈ t.trace) :
    (i = .busreset ∧ reg = swrstReg) ∨ ∃ ops, commandSteps s.params.hasResetLine i = some ops ∧
      ∀ P : State → Prop, P s.beginCommand → (∀ op ∈ ops, ∀ u, P u → P (op.run u).state) →
        ∃ op ∈ ops, ∃ u, P u ∧ op.payload u = some (reg, v) := by
  cases hops : commandSteps s.params.hasResetLine i with
  | some ops =>
    refine .inr ⟨ops, rfl, fun P hs hstep => ?_⟩
    obtain ⟨_, _, htrace⟩ := exec_state_of_steps hops hx
    obtain ⟨_, hwrites⟩ := runSteps_keeps (P := fun u => P u ∧ u.WritesComeFrom ops P) (s := s.beginCommand)
      (fun op hop u ⟨hP, hu⟩ => ⟨hstep op hop u hP, CmdStep.run_writesComeFrom hop hP hu⟩)
      ⟨hs, by simp [State.WritesComeFrom]⟩
    exact hwrites d reg v (htrace ▸ hmem)
  | none =>
    rcases commandSteps_eq_none hops with rfl | rfl | rfl
    · cases hx; simp [afterRead] at hmem
    · cases hx; simp at hmem
    · rw [busreset_trace hx] at hmem
      cases List.mem_singleton.mp hmem
      exact .inl ⟨rfl, rfl⟩

/-! ### Duty and frequency bytes (R92) -/

/-- A write of a plain register other than the enable register is a step of its own. -/
theorem CmdStep.eq_write_of_payload {op : CmdStep} {u : State} {reg v : Byte} (h : op.payload u = some (reg, v))
    (hplain : PlainReg reg) (hreg : reg ≠ enableReg) : op = .write reg v := by
  cases op with
  | write reg v => cases h; rfl
  | channel c st => cases h; exact absurd rfl (hplain.ne_ledoutReg _)
  | mode clr => cases h; exact absurd rfl hplain.2
  | switch g =>
    simp only [CmdStep.payload] at h
    split at h <;> cases h
    exact absurd rfl hplain.2
  | lineReset => cases h; exact absurd rfl hreg

/-- The commands that write a plain register other than the enable register, with register and byte (R130 to R132,
R114). -/
inductive WritesPlain : Instr → Byte → Byte → Prop where
  | setduty (c : Channel) (d : Byte) : WritesPlain (.setduty c d) (pwmReg c) d
  | assigngrp (c : Channel) : WritesPlain (.assigngrp c) (pwmReg c) maxDuty
  | grpduty (d : Byte) : WritesPlain (.grpduty d) grpDutyReg d
  | grpblinkDuty (f d : Byte) : WritesPlain (.grpblink f d) grpDutyReg d
  | grpblinkFreq (f d : Byte) : WritesPlain (.grpblink f d) grpFreqReg f

theorem writesPlain_of_mem_commandSteps {hasLine : Bool} {i : Instr} {ops : List CmdStep} {reg v : Byte}
    (hops : commandSteps hasLine i = some ops) (hmem : .write reg v ∈ ops) (hreg : reg ≠ enableReg) :
    WritesPlain i reg v := by
  cases i with
  | setduty c d => cases hops; cases List.mem_singleton.mp hmem; exact .setduty c _
  | assigngrp c =>
    cases hops
    obtain ⟨rfl, rfl⟩ : reg = pwmReg c ∧ v = maxDuty := by simpa using hmem
    exact .assigngrp c
  | grpduty d =>
    cases hops
    obtain ⟨rfl, rfl⟩ : reg = grpDutyReg ∧ v = d := by simpa using hmem
    exact .grpduty _
  | grpblink f d =>
    cases hops
    have hwrite : (reg = grpDutyReg ∧ v = d) ∨ (reg = grpFreqReg ∧ v = f) := by simpa using hmem
    rcases hwrite with ⟨rfl, rfl⟩ | ⟨rfl, rfl⟩
    · exact .grpblinkDuty f _
    · exact .grpblinkFreq _ d
  | enable => cases hops; simp [hreg] at hmem
  | reset => cases hops; cases hasLine <;> simp [resetSteps, hreg] at hmem
  | setstate c st => cases hops; simp at hmem
  | clrerr => cases hops; simp at hmem
  | turnoff c => cases hops; simp at hmem
  | turnon c => cases hops; simp at hmem
  | setpwm c => cases hops; simp at hmem
  | chkerr => cases hops
  | descerr => cases hops
  | busreset => cases hops

/-- A write of such a register in the trace of a command. -/
theorem writesPlain_of_trace {i : Instr} {s t : State} {d : DevAddr} {reg v : Byte} (hx : exec i s = .next t)
    (hmem : .write d reg v ∈ t.trace) (hplain : PlainReg reg) (hreg : reg ≠ enableReg) : WritesPlain i reg v := by
  rcases write_cases_of_trace hx hmem with ⟨_, rfl⟩ | ⟨ops, hops, hwrite⟩
  · exact absurd hplain.1 (by decide)
  · obtain ⟨op, hop, u, _, hpay⟩ := hwrite (fun _ => True) trivial (fun _ _ _ _ => trivial)
    rw [CmdStep.eq_write_of_payload hpay hplain hreg] at hop
    exact writesPlain_of_mem_commandSteps hops hop hreg

theorem pwmReg_inj : ∀ {c c' : Channel}, pwmReg c = pwmReg c' → c = c' := by decide

/-- The PWM registers end below GRPDUTY_REG (R54). -/
theorem pwmReg_bounds : ∀ c : Channel, 0x02 ≤ (pwmReg c).toNat ∧ (pwmReg c).toNat < 0x12 := by decide

theorem pwmReg_ne_of_ge (c : Channel) {reg : Byte} (h : 0x12 ≤ reg.toNat) : pwmReg c ≠ reg := by
  rintro rfl
  exact absurd (pwmReg_bounds c).2 (by omega)

theorem pwmReg_ne_enableReg (c : Channel) : pwmReg c ≠ enableReg := by
  intro h
  have hlow := (pwmReg_bounds c).1
  rw [h] at hlow
  exact absurd hlow (by decide)

/-- Settles O43: the registers of `WritesPlain` are distinct, so the register of a write names the operand. -/
theorem dutyBytesUnchanged : Obligations.DutyBytesUnchanged := by
  intro i s t d reg v hx hmem
  have hsource := writesPlain_of_trace hx hmem
  refine ⟨fun c hreg => ?_, fun hreg => ?_, fun hreg => ?_⟩
  · change reg = pwmReg c at hreg
    cases hsource (hreg ▸ plainReg_pwmReg c) (hreg ▸ pwmReg_ne_enableReg c) with
    | setduty c' d => cases pwmReg_inj hreg; exact .inl rfl
    | assigngrp c' => cases pwmReg_inj hreg; exact .inr ⟨rfl, rfl⟩
    | grpduty | grpblinkDuty | grpblinkFreq => exact absurd hreg.symm (pwmReg_ne_of_ge c (by decide))
  · cases hsource (hreg ▸ plainReg_grpDutyReg) (hreg ▸ by decide) with
    | setduty c' | assigngrp c' => exact absurd hreg (pwmReg_ne_of_ge c' (by decide))
    | grpduty d => exact .inl rfl
    | grpblinkDuty f d => exact .inr ⟨f, rfl⟩
    | grpblinkFreq => exact absurd hreg (by decide)
  · cases hsource (hreg ▸ plainReg_grpFreqReg) (hreg ▸ by decide) with
    | setduty c' | assigngrp c' => exact absurd hreg (pwmReg_ne_of_ge c' (by decide))
    | grpduty | grpblinkDuty => exact absurd hreg (by decide)
    | grpblinkFreq f d => exact ⟨d, rfl⟩

/-! ### The writes of MODE_REG (R90, R133, R134) -/

/-- A write of MODE_REG is a step of CLRERR, or a switch of the group commands away from the other mode. -/
theorem CmdStep.cases_of_mode_payload {op : CmdStep} {hasLine : Bool} {i : Instr} {u : State} {v : Byte}
    (hop : op.Of hasLine i) (h : op.payload u = some (modeReg, v)) :
    (∃ clr, op = .mode clr ∧ v = modeByte clr u.block.groupMode) ∨
    (∃ g, op = .switch g ∧ u.block.groupMode ≠ g ∧ v = modeByte false g) := by
  cases op with
  | write reg v => cases h; exact absurd rfl hop.2
  | channel c st => exact absurd (congrArg Prod.fst (Option.some.inj h)) (ledoutReg_ne_modeReg _)
  | mode clr => cases h; exact .inl ⟨clr, rfl, rfl⟩
  | switch g =>
    simp only [CmdStep.payload] at h
    split at h <;> cases h
    exact .inr ⟨g, rfl, ‹_›, rfl⟩
  | lineReset => cases h

/-- Only a switch or the line reset changes the cached mode (R25). -/
theorem CmdStep.run_groupMode {ops : List CmdStep} {g0 : GroupMode} {op : CmdStep} (hop : op ∈ ops) {u : State}
    (hu : u.block.groupMode = g0 ∨ .switch u.block.groupMode ∈ ops ∨ .lineReset ∈ ops) :
    (op.run u).state.block.groupMode = g0 ∨ .switch (op.run u).state.block.groupMode ∈ ops ∨ .lineReset ∈ ops := by
  rw [(op.run_block_params u).1]
  cases op with
  | switch g => exact .inr (.inl hop)
  | lineReset => exact .inr (.inr hop)
  | _ => exact hu

theorem GroupMode.eq_blink_of_ne {g : GroupMode} (h : g ≠ .pwmDutyOnly) : g = .blink := by
  cases g; exacts [absurd rfl h, rfl]

theorem GroupMode.eq_pwmDutyOnly_of_ne {g : GroupMode} (h : g ≠ .blink) : g = .pwmDutyOnly := by
  cases g; exacts [rfl, absurd rfl h]

/-- Settles O44: a switch writes only away from another mode, which no step of its command but itself can have set, so
the mode a MODE_REG write is made from is the one at the start. -/
theorem modeRegisterWriters : Obligations.ModeRegisterWriters := by
  intro i s t d v hx hmem
  rcases write_cases_of_trace hx hmem with ⟨_, hreg⟩ | ⟨ops, hops, hwrite⟩
  · exact absurd hreg (by decide)
  obtain ⟨op, hop, u, hmode, hpay⟩ := hwrite
    (fun u => u.block.groupMode = s.block.groupMode ∨ .switch u.block.groupMode ∈ ops ∨ .lineReset ∈ ops) (.inl rfl)
    (fun _ hop _ hu => CmdStep.run_groupMode hop hu)
  have hof := of_mem_commandSteps hops op hop
  rcases CmdStep.cases_of_mode_payload hof hpay with ⟨clr, rfl, rfl⟩ | ⟨g, rfl, hne, rfl⟩
  · obtain rfl : i = .clrerr := hof
    cases hops
    have hsame : u.block.groupMode = s.block.groupMode := by simpa using hmode
    rw [hsame]
    refine .inr (.inr ⟨rfl, fun hblink => ?_, fun hpwm => ?_⟩)
    · rw [hblink]; cases clr; exacts [.inr rfl, .inl rfl]
    · rw [hpwm]; cases clr; exacts [.inr rfl, .inl rfl]
  · rcases hof with ⟨dc, rfl⟩ | ⟨f, dc, rfl⟩
    · cases hops
      obtain rfl : g = .pwmDutyOnly := by simpa using hop
      have hsame : u.block.groupMode = s.block.groupMode := by simpa [hne] using hmode
      exact .inl ⟨⟨dc, rfl⟩, GroupMode.eq_blink_of_ne (hsame ▸ hne), rfl⟩
    · cases hops
      obtain rfl : g = .blink := by simpa using hop
      have hsame : u.block.groupMode = s.block.groupMode := by simpa [hne] using hmode
      exact .inr (.inl ⟨⟨f, dc, rfl⟩, GroupMode.eq_pwmDutyOnly_of_ne (hsame ▸ hne), rfl⟩)

end Sys2Proof.Machine

/-! The statements of 41_channel_state.md. SETSTATE is the one step `CmdStep.channel`. The block and the trace it leaves do
not depend on the answer (`exec_setstate_block_trace`), and its LEDOUT write leaves every PWM register as it was
(`DeviceFollows.readDevice_pwmReg`). -/

namespace Sys2Proof.Machine

/-! ### SETSTATE, whatever its write is answered (R110, R115) -/

/-- The word of SETSTATE with code `v` in its state field (R81, R87). -/
theorem decode_setstate_code (c : Channel) (v : BitVec 2) :
    decode (0x2#4 ++ c ++ (0#6 ++ v) ++ 0x00#8) = .ok (.setstate c (chanStateOfCode v)) := by
  have hfield : (chanStateCode (chanStateOfCode v)).setWidth 8 = 0#6 ++ v := by
    rw [chanStateCode_ofCode, BitVec.setWidth_eq_append (by decide)]; rfl
  have hdecode := decode_setstate c (chanStateOfCode v)
  rwa [hfield] at hdecode

/-- The new mirror byte in the form of R110, by the code instead of the state (R89). -/
theorem insertField_ofCode (m : Byte) (c : Channel) (v : BitVec 2) :
    insertField m c (chanStateOfCode v) =
      (m &&& ~~~(0b11#8 <<< ((c.toNat % 4) * 2))) ||| (v.setWidth 8 <<< ((c.toNat % 4) * 2)) := by
  rw [insertField, chanStateCode_ofCode]; rfl

/-- Settles O15: one step, done when its write succeeds, and the first failed one when it does not. -/
theorem setstateResult : Obligations.SetstateResult := by
  intro s c v
  refine ⟨decode_setstate_code c v, fun hs => ?_, fun hanswer => ?_⟩
  · exact exec_channel_done (i := .setstate c (chanStateOfCode v)) rfl hs (insertField_ofCode _ c v)
  · obtain ⟨reached, hfail⟩ := Answer.exists_fail hanswer
    obtain ⟨t, hexec, hran, _⟩ := exec_fails (i := .setstate c (chanStateOfCode v)) (before := [])
      (op := .channel c (chanStateOfCode v)) rfl rfl rfl s.succeeds_zero rfl hfail (by simp) transportErrorWord_zero
    rw [← insertField_ofCode]
    exact ⟨t, hexec, hran⟩

theorem State.mirrorByte_of_block {s t : State} (h : t.block = s.block) (j : Fin 4) :
    t.mirrorByte j = s.mirrorByte j := by
  rw [State.mirrorByte, h]; rfl

theorem State.chanState_of_block {s t : State} (h : t.block = s.block) (c : Channel) :
    t.chanState c = s.chanState c :=
  congrArg (extractField · c) (State.mirrorByte_of_block h _)

/-- Both answers leave the mirror with the new byte, and the one write of that byte in the trace (R110, R193). -/
theorem exec_setstate_block_trace {s t : State} {c : Channel} {st : ChanState}
    (hx : exec (.setstate c st) s = .next t) :
    t.block = (s.setMirror (regIndex c) (insertField (s.mirrorByte (regIndex c)) c st)).block ∧
    t.trace = [devWrite s (ledoutReg (regIndex c)) (insertField (s.mirrorByte (regIndex c)) c st)] := by
  obtain ⟨hblock, _, htrace⟩ := exec_state_of_steps rfl hx
  rw [runSteps_singleton, CmdStep.run_channel, setChannel_eq] at hblock htrace
  obtain ⟨hwriteBlock, _, hwriteTrace⟩ := memWrite_state (ledoutReg (regIndex c))
    (insertField (s.mirrorByte (regIndex c)) c st)
    (s.beginCommand.setMirror (regIndex c) (insertField (s.mirrorByte (regIndex c)) c st))
  exact ⟨hblock.trans hwriteBlock, htrace.trans hwriteTrace⟩

/-- Settles O18: the block is that of one `setMirror`, where the field of `c` alone was put in. -/
theorem setstateIsolatesChannels : Obligations.SetstateIsolatesChannels := by
  intro s t c st hx
  obtain ⟨hblock, htrace⟩ := exec_setstate_block_trace hx
  have hmirror (j : Fin 4) := (State.mirrorByte_of_block hblock j).trans (State.mirrorByte_setMirror s _ j _)
  have hstate (d : Channel) := (State.chanState_of_block hblock d).trans (State.chanState_setMirror s c d st)
  refine ⟨(hstate c).trans (if_pos rfl), fun d hd => (hstate d).trans (if_neg hd),
    fun j hj => (hmirror j).trans (if_neg hj.symm), ?_⟩
  rw [htrace, hmirror, if_pos rfl]

/-! ### A channel taken out of the group (R117, R236) -/

/-- The answers that a command leaves are those after its own. -/
theorem Ran.answerAt {s t : State} {b : Block} {events : List Event} {w : CmdWord} (h : Ran s t b events w) (k : Nat) :
    t.answerAt k = s.answerAt (transactions events + k) := by
  obtain ⟨_, _, _, _, _, hanswers, hissued⟩ := h
  simp only [State.answerAt, hanswers, hissued, List.getElem?_drop, Nat.add_assoc]

/-- A LEDOUT write at the end of a command leaves every PWM register as the events before it did (R57, R60). -/
theorem DeviceFollows.readDevice_pwmReg {s t : State} {es : List Event} {j : Fin 4} {v : Byte}
    (h : DeviceFollows s t (es ++ [devWrite s (ledoutReg j) v])) (d : DevAddr) (c : Channel) :
    t.readDevice d (pwmReg c) = (storedValue es d (pwmReg c)).getD (s.readDevice d (pwmReg c)) := by
  have hflag : isFlagReg (pwmReg c) = false := by revert c; decide
  have hne := (plainReg_pwmReg c).ne_ledoutReg j
  rw [h d (pwmReg c) (by simp [hflag]), storedValue_snoc, devWrite, eventStores_write, if_neg fun hw => hne hw.2.symm,
    Option.none_or]

/-- Settles O57: ASSIGNGRP stores the maximum duty, and the LEDOUT writes after it, its own and that of SETSTATE, leave
it there. -/
theorem dutyStaysAfterLeavingGroup : Obligations.DutyStaysAfterLeavingGroup := by
  intro s t u c st hs hassign hset
  obtain ⟨t', hassign', hran, hfollowsAssign, _⟩ := assigngrpCompletes s c fun k hk => hs k (by omega)
  cases hassign.symm.trans hassign'
  have hnext : t.succeeds 1 := fun k hk => by rw [hran.answerAt]; exact hs _ (Nat.add_lt_add_left hk 2)
  obtain ⟨u', hset', _, hfollowsSet⟩ := exec_channel_done (i := .setstate c st) rfl hnext rfl
  cases hset.symm.trans hset'
  have hduty : t.readDevice s.params.devAddr (pwmReg c) = 0xFF#8 := by
    rw [DeviceFollows.readDevice_pwmReg (es := [devWrite s (pwmReg c) maxDuty]) (j := regIndex c) hfollowsAssign]
    simp [storedValue, devWrite, maxDuty]
  have hkept := DeviceFollows.readDevice_pwmReg (es := []) (j := regIndex c) hfollowsSet s.params.devAddr c
  exact ⟨hkept.trans hduty, (setstateIsolatesChannels t u c st hset).1⟩

end Sys2Proof.Machine

/-! The statements of 42_brightness.md. What follows a command depends on the account `Ran` of that command alone: the
mode it left, the answers it left, the address it wrote to. Sequences of GRPDUTY and GRPBLINK are chained by these facts
from `grpdutyCompletes` and `grpblinkCompletes`. -/

namespace Sys2Proof.Machine

/-! ### SETDUTY (R130) -/

/-- Settles O21: one step, done when its write succeeds, and the first failed one when it does not. -/
theorem setdutyResult : Obligations.SetdutyResult := by
  intro s c d
  refine ⟨decode_encode (.setduty c d), fun hs => ?_, fun hanswer => ?_⟩
  · exact exec_completes (i := .setduty c d) rfl rfl rfl hs (by simp)
  · obtain ⟨reached, hfail⟩ := Answer.exists_fail hanswer
    obtain ⟨t, hexec, hran, _⟩ := exec_fails (i := .setduty c d) (before := []) (op := .write (pwmReg c) d) rfl rfl rfl
      s.succeeds_zero rfl hfail (by simp) transportErrorWord_zero
    exact ⟨t, hexec, hran⟩

/-! ### From one command to the next (R12) -/

/-- A command has one outcome: what is shown of some outcome holds of the one at hand. -/
theorem of_exec_eq_next {i : Instr} {s t : State} {P : State → Prop} (h : ∃ u, exec i s = .next u ∧ P u)
    (hx : exec i s = .next t) : P t := by
  obtain ⟨u, hu, hP⟩ := h
  cases hx.symm.trans hu
  exact hP

theorem State.succeeds.of_le {s : State} {m n : Nat} (hs : s.succeeds m) (h : n ≤ m) : s.succeeds n :=
  fun k hk => hs k (hk.trans_le h)

section Ran

variable {s t : State} {b : Block} {events : List Event} {w : CmdWord} (h : Ran s t b events w)

include h

theorem Ran.trace_eq : t.trace = events := by
  obtain ⟨_, htrace, _⟩ := h
  exact htrace

theorem Ran.groupMode_eq : t.block.groupMode = b.groupMode := by
  obtain ⟨hblock, _⟩ := h
  rw [hblock]

theorem Ran.devWrite_eq : devWrite t = devWrite s := by
  obtain ⟨_, _, _, hparams, _⟩ := h
  funext reg v
  rw [devWrite, devWrite, hparams]

/-- The successes that a command did not use up are left to the next one. -/
theorem Ran.succeeds {m n : Nat} (hs : s.succeeds m) (hn : transactions events + n ≤ m) : t.succeeds n := by
  intro k hk
  rw [h.answerAt k]
  exact hs _ (by omega)

end Ran

/-! ### The mode writes of a sequence (R133) -/

/-- Settles O25: each command starts in the mode the one before it left, and that decides whether it writes MODE_REG. -/
theorem modeBitTogglesExactlyTwice : Obligations.ModeBitTogglesExactlyTwice := by
  intro s s1 s2 s3 s4 d1 f2 d2 f3 d3 d4 hmode hs hx1 hx2 hx3 hx4
  obtain ⟨hran1, _⟩ := of_exec_eq_next ((grpdutyCompletes s d1).2 hmode (hs.of_le (by omega))) hx1
  have hs1 : s1.succeeds 7 := hran1.succeeds hs (Nat.le_refl 8)
  have hmode1 : s1.block.groupMode = .pwmDutyOnly := hran1.groupMode_eq.trans hmode
  obtain ⟨hran2, _⟩ := of_exec_eq_next ((grpblinkCompletes s1 f2 d2).1 hmode1 (hs1.of_le (by omega))) hx2
  have hs2 : s2.succeeds 4 := hran2.succeeds hs1 (Nat.le_refl 7)
  have hmode2 : s2.block.groupMode = .blink := hran2.groupMode_eq
  obtain ⟨hran3, _⟩ := of_exec_eq_next ((grpblinkCompletes s2 f3 d3).2 hmode2 (hs2.of_le (by omega))) hx3
  have hs3 : s3.succeeds 2 := hran3.succeeds hs2 (Nat.le_refl 4)
  have hmode3 : s3.block.groupMode = .blink := hran3.groupMode_eq.trans hmode2
  obtain ⟨hran4, _⟩ := of_exec_eq_next ((grpdutyCompletes s3 d4).1 hmode3 hs3) hx4
  have hdev2 : devWrite s2 = devWrite s := hran2.devWrite_eq.trans hran1.devWrite_eq
  refine ⟨hran1.trace_eq, ?_, ?_, ?_, hmode2, hmode3, hran4.groupMode_eq⟩
  · rw [← hran1.devWrite_eq]; exact hran2.trace_eq
  · rw [← hdev2]; exact hran3.trace_eq
  · rw [← hdev2, ← hran3.devWrite_eq]; exact hran4.trace_eq

/-! ### The mode bit repaired (R134, R226) -/

/-- The device's mode bit agrees with the cache when the last MODE_REG write of the command carried the mode the command
left (R34, R90). -/
theorem modeSynced_of_storedValue {s t : State} {b : Block} {events : List Event} {w : CmdWord} {clr : Bool}
    (hran : Ran s t b events w) (hfollows : DeviceFollows s t events)
    (hstored : storedValue events s.params.devAddr modeReg = some (modeByte clr b.groupMode)) : t.ModeSynced := by
  have hmode := hran.groupMode_eq
  obtain ⟨_, _, _, hparams, _⟩ := hran
  have hdevice := hfollows s.params.devAddr modeReg (by simp [isFlagReg_modeReg])
  rw [hstored, Option.getD_some] at hdevice
  rw [State.ModeSynced, hparams, hmode, hdevice, modeByte_bit]

/-- After a GRPBLINK the mode is Blink, whichever it was, and it used up no more than three answers (R132). -/
theorem blink_and_succeeds_of_exec_grpblink {s t : State} {f d : Byte} {n : Nat} (hs : s.succeeds (3 + n))
    (hx : exec (.grpblink f d) s = .next t) : t.block.groupMode = .blink ∧ t.succeeds n := by
  obtain ⟨fromPwm, fromBlink⟩ := grpblinkCompletes s f d
  cases hmode : s.block.groupMode with
  | pwmDutyOnly =>
    obtain ⟨hran, _⟩ := of_exec_eq_next (fromPwm hmode (hs.of_le (by omega))) hx
    exact ⟨hran.groupMode_eq, hran.succeeds hs (Nat.le_refl (3 + n))⟩
  | blink =>
    obtain ⟨hran, _⟩ := of_exec_eq_next (fromBlink hmode (hs.of_le (by omega))) hx
    exact ⟨hran.groupMode_eq.trans hmode, hran.succeeds hs (Nat.add_le_add_right (Nat.le_succ 2) n)⟩

/-- After a GRPDUTY the mode is PwmDutyOnly, whichever it was, and it used up no more than two answers (R131). -/
theorem pwmDutyOnly_and_succeeds_of_exec_grpduty {s t : State} {d : Byte} {n : Nat} (hs : s.succeeds (2 + n))
    (hx : exec (.grpduty d) s = .next t) : t.block.groupMode = .pwmDutyOnly ∧ t.succeeds n := by
  obtain ⟨fromBlink, fromPwm⟩ := grpdutyCompletes s d
  cases hmode : s.block.groupMode with
  | pwmDutyOnly =>
    obtain ⟨hran, _⟩ := of_exec_eq_next (fromPwm hmode (hs.of_le (by omega))) hx
    exact ⟨hran.groupMode_eq.trans hmode, hran.succeeds hs (Nat.add_le_add_right (Nat.le_succ 1) n)⟩
  | blink =>
    obtain ⟨hran, _⟩ := of_exec_eq_next (fromBlink hmode (hs.of_le (by omega))) hx
    exact ⟨hran.groupMode_eq, hran.succeeds hs (Nat.le_refl (2 + n))⟩

/-- Settles O55: the first command of a pair leaves the mode that the second switches away from, so the second always
writes MODE_REG; CLRERR writes it in every mode. -/
theorem modeBitRepaired : Obligations.ModeBitRepaired := by
  refine ⟨fun s t u f d d' hs hx hy => ?_, fun s t u f d d' hs hx hy => ?_, fun s t hs hx => ?_⟩
  · obtain ⟨hmode, hs'⟩ := blink_and_succeeds_of_exec_grpblink (n := 2) hs hx
    obtain ⟨hran, hfollows⟩ := of_exec_eq_next ((grpdutyCompletes t d').1 hmode hs') hy
    exact modeSynced_of_storedValue (clr := false) hran hfollows
      (by simp [storedValue, devWrite, modeReg, modeByte])
  · obtain ⟨hmode, hs'⟩ := pwmDutyOnly_and_succeeds_of_exec_grpduty (n := 3) hs hx
    obtain ⟨hran, hfollows⟩ := of_exec_eq_next ((grpblinkCompletes t f d).1 hmode hs') hy
    exact modeSynced_of_storedValue (clr := false) hran hfollows
      (by simp [storedValue, devWrite, modeReg, modeByte, blinkBit])
  · obtain ⟨hran, hfollows⟩ := of_exec_eq_next
      (exec_completes (i := .clrerr) (ops := [.mode true, .mode false]) rfl rfl rfl hs (by simp)) hx
    refine modeSynced_of_storedValue (clr := false) hran hfollows ?_
    exact (storedValue_snoc _ _ _ _).trans (by simp [doneSteps, CmdStep.done, CmdStep.payload, CmdStep.prep, wrote])

end Sys2Proof.Machine

/-! The statements of 43_errors.md. That the error fields are data is an equation: replacing them before a command that
neither checks nor reports errors is replacing them after it. `State.setErr` commutes with the write primitive
(`busWrite_setErr`), so with every step (`CmdStep.run_setErr`) and with every command made of steps (`exec_setErr`). -/

namespace Sys2Proof.Machine

/-! ### Two runs that differ in the error fields (R154) -/

/-- The error fields replaced in whichever state the flow has come to. -/
def Flow.setErr (e : ErrStatus × Mask16) : Flow → Flow
  | .cont s => .cont (s.setErr e)
  | .ended s => .ended (s.setErr e)

theorem Flow.state_setErr (e : ErrStatus × Mask16) (f : Flow) : (f.setErr e).state = f.state.setErr e := by
  cases f <;> rfl

theorem Flow.andThen_setErr {e : ErrStatus × Mask16} {k : State → Flow} (hk : ∀ s, k (s.setErr e) = (k s).setErr e)
    (f : Flow) : (f.setErr e).andThen k = (f.andThen k).setErr e := by
  cases f with
  | cont s => exact hk s
  | ended s => rfl

/-- A write is answered and numbered without a look at the error fields. -/
theorem busWrite_setErr {e : ErrStatus × Mask16} {reach : State → State}
    (hreach : ∀ s, reach (s.setErr e) = (reach s).setErr e) (d : DevAddr) (reg v : Byte) (s : State) :
    busWrite d reg v reach (s.setErr e) = (busWrite d reg v reach s).setErr e := by
  have hissue : issueWrite d reg v (s.setErr e) = (issueWrite d reg v s).setErr e := rfl
  rcases busWrite_cases d reg v reach s with ⟨hok, heq⟩ | ⟨r, hfail, heq⟩
  · rw [heq, busWrite_done d reg v reach (s.setErr e) hok, hissue, hreach]
    rfl
  · rw [heq, busWrite_fail d reg v reach (s.setErr e) r hfail, hissue, hreach]
    cases r <;> rfl

theorem memWrite_setErr (e : ErrStatus × Mask16) (reg v : Byte) (s : State) :
    memWrite reg v (s.setErr e) = (memWrite reg v s).setErr e :=
  busWrite_setErr (fun _ => rfl) s.params.devAddr reg v s

theorem CmdStep.prep_setErr (op : CmdStep) (e : ErrStatus × Mask16) (s : State) :
    op.prep (s.setErr e) = (op.prep s).setErr e := by
  cases op <;> rfl

/-- What a step writes comes from its operands, the mirror and the mode. -/
theorem CmdStep.payload_setErr (op : CmdStep) (e : ErrStatus × Mask16) (s : State) :
    op.payload (s.setErr e) = op.payload s := by
  cases op <;> rfl

theorem CmdStep.run_setErr (op : CmdStep) (e : ErrStatus × Mask16) (s : State) :
    op.run (s.setErr e) = (op.run s).setErr e := by
  unfold CmdStep.run
  rw [op.payload_setErr, op.prep_setErr]
  cases op.payload s with
  | none => rfl
  | some w => exact memWrite_setErr e w.1 w.2 (op.prep s)

theorem runSteps_setErr (ops : List CmdStep) (e : ErrStatus × Mask16) (s : State) :
    runSteps ops (s.setErr e) = (runSteps ops s).setErr e := by
  induction ops generalizing s with
  | nil => rfl
  | cons op ops ih =>
    simp only [runSteps_cons, op.run_setErr]
    exact Flow.andThen_setErr ih (op.run s)

/-- The OK response of a command that reports nothing does not show the error fields. -/
theorem state_andThen_returnOk_setErr (f : Flow) (e : ErrStatus × Mask16) (k : BitVec 6) (result : Mask16) :
    ((f.setErr e).andThen (returnOk k result)).state = (f.andThen (returnOk k result)).state.setErr e := by
  rw [Flow.andThen_setErr fun _ => rfl, Flow.state_setErr]

/-- A command that is neither CHKERR nor DESCERR runs the same from other error fields, and leaves those. -/
theorem exec_setErr {i : Instr} {s t : State} (hdesc : i ≠ .descerr) (hchk : i ≠ .chkerr) (hx : exec i s = .next t)
    (e : ErrStatus × Mask16) : exec i (s.setErr e) = .next (t.setErr e) := by
  cases hops : commandSteps s.params.hasResetLine i with
  | some ops =>
    rw [exec_eq_runSteps hops] at hx
    cases hx
    rw [exec_eq_runSteps (s := s.setErr e) hops, ← state_andThen_returnOk_setErr, ← runSteps_setErr]
    rfl
  | none =>
    obtain rfl : i = .busreset := ((commandSteps_eq_none hops).resolve_left hchk).resolve_left hdesc
    have hwrite := busWrite_setErr (e := e) (reach := State.busResetDevices) (fun _ => rfl) swrstDev swrstReg swrstVal
      s.beginCommand
    cases hx
    rw [← state_andThen_returnOk_setErr, ← hwrite]
    rfl

/-- CHKERR overwrites the error fields without reading them (R151). -/
theorem checked_setErr (s : State) (e : ErrStatus × Mask16) : checked (s.setErr e) = checked s := rfl

/-- No command but CHKERR reads a register (R52, R151). -/
theorem eq_chkerr_of_read_mem_trace {i : Instr} {s t : State} {d : DevAddr} {r : Byte} (hx : exec i s = .next t)
    (hmem : .read d r ∈ t.trace) : i = .chkerr := by
  by_cases hbus : i = .busreset
  · subst hbus
    rw [busreset_trace hx] at hmem
    cases List.mem_singleton.mp hmem
  · obtain ⟨_, hread⟩ := transactionsStayInTheMap i s t hx hbus
    obtain ⟨hchk, _⟩ := hread d r hmem
    exact hchk

/-- Settles O33: `exec_setErr` for the commands that leave the error fields, `checked_setErr` for the one that sets
them. -/
theorem errorFieldsAffectNoOtherCommand : Obligations.ErrorFieldsAffectNoOtherCommand := by
  refine ⟨fun i s t e m hdesc hchk hx => exec_setErr hdesc hchk hx (e, m), fun s e m => ?_, fun i s t d r hx hmem =>
    eq_chkerr_of_read_mem_trace hx hmem⟩
  exact congrArg Host.Outcome.next (checked_setErr s (e, m))

/-! ### The error state machine (R150) -/

theorem statusOfMask_eq_faulted (m : Mask16) : statusOfMask m = .faulted ↔ ¬ m = 0xFFFF#16 := by
  by_cases hm : m = 0xFFFF#16 <;> simp [statusOfMask, noErrors, hm]

theorem eq_of_getLsbD_true {b : Byte} (h : ∀ i, i < 8 → b.getLsbD i = true) : b = 0xFF#8 := by
  have hones : ∀ i, i < 8 → (0xFF#8).getLsbD i = true := by decide
  exact BitVec.eq_of_getLsbD_eq fun i hi => (h i hi).trans (hones i hi).symm

/-- The "no errors" mask is assembled from two bytes 0xFF and from no others (R94). -/
theorem errorMask_eq_noErrors_iff (lo hi : Byte) : errorMask lo hi = 0xFFFF#16 ↔ lo = 0xFF#8 ∧ hi = 0xFF#8 := by
  refine ⟨fun h => ?_, by rintro ⟨rfl, rfl⟩; rfl⟩
  have hbit : ∀ i, i < 16 → (errorMask lo hi).getLsbD i = true := by rw [h]; decide
  refine ⟨eq_of_getLsbD_true fun i hi8 => ?_, eq_of_getLsbD_true fun i hi8 => ?_⟩
  · exact (getLsbD_errorMask_low lo hi hi8).symm.trans (hbit i (by omega))
  · exact (getLsbD_errorMask_high lo hi hi8).symm.trans (hbit (8 + i) (by omega))

/-- After a check the status is known, whatever was read (R150). -/
theorem checkOutcome_status_ne_unknown (sentinel : Mask16) (lo hi : Option Byte) :
    (checkOutcome sentinel lo hi).1 ≠ .unknown := by
  cases lo with
  | none => simp [checkOutcome]
  | some lo =>
    cases hi with
    | none => simp [checkOutcome]
    | some hi => by_cases hm : errorMask lo hi = noErrors <;> simp [checkOutcome, statusOfMask, hm]

theorem checked_errStatus (s : State) : (checked s).block.errStatus = (checkFound s).1 := rfl

/-- Settles O28: what CHKERR finds is the new status; no other command writes the error fields. -/
theorem errorStateMachine : Obligations.ErrorStateMachine := by
  refine ⟨fun _ => rfl, fun _ => rfl, fun s t hx => ?_, fun i s t hchk hx => ?_⟩
  · rw [exec_chkerr] at hx
    cases hx
    rw [checked_errStatus]
    refine ⟨fun lo hi hlo hhi => ?_, fun hfail => ?_, checkOutcome_status_ne_unknown _ _ _⟩
    · rw [checkFound_of_done hlo hhi, statusOfMask_eq_clean, statusOfMask_eq_faulted, errorMask_eq_noErrors_iff]
      exact ⟨Iff.rfl, Iff.rfl⟩
    · rw [checkFound_of_failure hfail]
  · obtain ⟨_, _, _, herr, _⟩ := writersOfBlockState i s t hx
    exact ⟨by_contra fun h => hchk (herr (.inl h)), by_contra fun h => hchk (herr (.inr h))⟩

/-! ### CLRERR (R153) -/

/-- The byte that sets CLR is the byte that clears it with bit 7 added: both carry the cached mode bit (R90). -/
theorem modeByte_clr (g : GroupMode) : modeByte true g = 0x80#8 ||| (if g = .blink then 0x20#8 else 0x00#8) := rfl

/-- Settles O32: two steps that write MODE_REG and change nothing of the block. -/
theorem clrerrResult : Obligations.ClrerrResult := by
  refine ⟨decode_encode .clrerr, fun s => ?_⟩
  dsimp only
  rw [← modeByte_clr, ← modeByte_false]
  refine ⟨fun hs => ?_, fun hanswer => ?_, fun ⟨hs, hanswer⟩ => ?_⟩
  · exact exec_completes (i := .clrerr) (ops := [.mode true, .mode false]) rfl rfl rfl hs (by simp)
  · obtain ⟨reached, hfail⟩ := Answer.exists_fail hanswer
    obtain ⟨t, hexec, hran, _⟩ := exec_fails (i := .clrerr) (before := []) (op := .mode true) rfl rfl rfl
      s.succeeds_zero rfl hfail (by simp) transportErrorWord_zero
    exact ⟨t, hexec, hran⟩
  · obtain ⟨reached, hfail⟩ := Answer.exists_fail hanswer
    obtain ⟨t, hexec, hran, _⟩ := exec_fails (i := .clrerr) (before := [.mode true]) (op := .mode false) rfl rfl rfl
      hs rfl hfail (by simp) transportErrorWord_one
    exact ⟨t, hexec, hran⟩

end Sys2Proof.Machine

/-! The statements of 44_enable_reset.md. RESET without a line is the seventeen steps of `resetSteps false`. The byte
that each of them writes is said in closed form (`resetWrites`), and one induction over how many steps are done
(`clearedBelow_doneSteps`) serves the RESET that completes and the one that a failed write stops. -/

namespace Sys2Proof.Machine

/-! ### ENABLE (R170) -/

/-- Settles O34: one step, done when its write succeeds, and the first failed one when it does not. -/
theorem enableResult : Obligations.EnableResult := by
  refine ⟨decode_encode .enable, fun s => ⟨fun hs => ?_, fun hanswer => ?_⟩⟩
  · exact exec_completes (i := .enable) (ops := [.write enableReg enableByte]) rfl rfl rfl hs (by simp)
  · obtain ⟨reached, hfail⟩ := Answer.exists_fail hanswer
    obtain ⟨t, hexec, hran, _⟩ := exec_fails (i := .enable) (before := []) (op := .write enableReg enableByte) rfl
      rfl rfl s.succeeds_zero rfl hfail (by simp) transportErrorWord_zero
    exact ⟨t, hexec, hran⟩

/-! ### RESET with a reset line (R172) -/

/-- The account of a command that a failed write ended (R12, R191). -/
theorem ran_failedWrite {s u : State} (hacc : s.Accounts u) (reached : Bool) (reg v : Byte) :
    Ran s (failedWrite reached reg v u) u.block (u.trace ++ [devWrite u reg v])
      (transportErrorWord (transactions u.trace)) := by
  obtain ⟨hanswers, hissued, hinputs, hparams⟩ := hacc.failedWrite reached reg v
  rw [failedWrite_trace] at hanswers hissued
  exact ⟨failedWrite_block reached reg v, failedWrite_trace reached reg v, failedWrite_response reached reg v,
    hparams, hinputs, hanswers, hissued⟩

/-- Settles O35: the pulse comes before the one write, so block and events are the same whatever its answer. -/
theorem resetByLineResult : Obligations.ResetByLineResult := by
  intro s hline
  have hops : commandSteps s.params.hasResetLine .reset = some [.lineReset] := by rw [hline]; rfl
  refine ⟨fun hs => ⟨_, exec_eq_done hops hs, ran_doneSteps [.lineReset] s⟩, fun hanswer => ?_⟩
  obtain ⟨reached, hfail⟩ := Answer.exists_fail hanswer
  have hacc := CmdStep.lineReset.prep_accounts (State.Accounts.beginCommand s)
  refine ⟨_, exec_eq_failed (before := []) hops rfl rfl s.succeeds_zero rfl hfail, ?_⟩
  rw [← transportErrorWord_zero]
  exact ran_failedWrite hacc reached enableReg enableByte

/-! ### The broadcast (R175) -/

/-- Settles O41: the broadcast's register 0xA5 is outside the map, in which every other command stays. -/
theorem onlyBusresetBroadcasts : Obligations.OnlyBusresetBroadcasts := by
  refine ⟨fun i s t hx hmem => by_contra fun hbus => ?_, fun s t hx => busreset_trace hx⟩
  obtain ⟨hwrites, _⟩ := transactionsStayInTheMap i s t hx hbus
  obtain ⟨_, hle⟩ := hwrites _ _ _ hmem
  exact absurd hle (by decide)

/-! ### A byte with its lowest fields cleared (R22, R173) -/

/-- The byte `m` with its `n` lowest channel fields cleared. -/
def clearLowFields (m : Byte) (n : Nat) : Byte := (m >>> (2 * n)) <<< (2 * n)

theorem getLsbD_clearLowFields (m : Byte) (n i : Nat) :
    (clearLowFields m n).getLsbD i = (decide (2 * n ≤ i) && m.getLsbD i) := by
  by_cases hi : i < 8
  · by_cases hn : 2 * n ≤ i
    · simp [clearLowFields, hi, hn, show ¬ i < 2 * n by omega]
    · simp [clearLowFields, hi, hn]
  · simp [BitVec.getLsbD_of_ge _ i (Nat.le_of_not_lt hi)]

theorem clearLowFields_zero (m : Byte) : clearLowFields m 0 = m := by simp [clearLowFields]

/-- A byte has four fields. -/
theorem clearLowFields_of_four_le (m : Byte) {n : Nat} (hn : 4 ≤ n) : clearLowFields m n = 0x00#8 := by
  apply BitVec.eq_of_getLsbD_eq
  intro i hi
  simp [getLsbD_clearLowFields, show ¬ 2 * n ≤ i by omega]

/-- The bits of a channel's field mask (R22). -/
theorem getLsbD_fieldMask (c : Channel) {i : Nat} (hi : i < 8) :
    (0b11#8 <<< ((c.toNat % 4) * 2)).getLsbD i = decide (2 * (c.toNat % 4) ≤ i ∧ i < 2 * (c.toNat % 4) + 2) := by
  have hones : ∀ j, j < 8 → (0b11#8).getLsbD j = decide (j < 2) := by decide
  rw [BitVec.getLsbD_shiftLeft, hones _ (by omega), Bool.eq_iff_iff]
  simp only [Bool.and_eq_true, Bool.not_eq_true', decide_eq_true_eq, decide_eq_false_iff_not]
  omega

/-- Switching a channel off when the fields below its own are already clear. -/
theorem insertField_off_clearLowFields (m : Byte) (c : Channel) :
    insertField (clearLowFields m (c.toNat % 4)) c .off = clearLowFields m (c.toNat % 4 + 1) := by
  apply BitVec.eq_of_getLsbD_eq
  intro i hi
  rw [insertField_off, BitVec.getLsbD_and, BitVec.getLsbD_not, getLsbD_fieldMask c hi, getLsbD_clearLowFields,
    getLsbD_clearLowFields, Bool.eq_iff_iff]
  generalize m.getLsbD i = b
  cases b with
  | false => simp
  | true => simp [hi]; omega

/-- Of the channels of a byte, those below `n` decode as Off once the `n` lowest fields are clear. -/
theorem extractField_clearLowFields (m : Byte) (n : Nat) (c : Channel) :
    extractField (clearLowFields m n) c = if c.toNat % 4 < n then 0b00#2 else extractField m c := by
  rw [extractField_eq_extractLsb', extractField_eq_extractLsb']
  apply BitVec.eq_of_getLsbD_eq
  intro i hi
  rw [BitVec.getLsbD_extractLsb', getLsbD_clearLowFields, bitOffset]
  split
  · simp [show ¬ 2 * n ≤ (c.toNat % 4) * 2 + i by omega]
  · simp [show 2 * n ≤ (c.toNat % 4) * 2 + i by omega]

/-! ### RESET without a reset line, step by step (R173) -/

/-- The block of `u` is that of `s` with the fields of the channels below `n` cleared in the mirror. -/
structure State.ClearedBelow (s : State) (n : Nat) (u : State) : Prop where
  block : u.block = { s.block with mirror := u.block.mirror }
  mirror : ∀ j : Fin 4, u.mirrorByte j = clearLowFields (s.mirrorByte j) (n - 4 * j)

theorem State.ClearedBelow.of_block {s u w : State} {n : Nat} (h : s.ClearedBelow n u) (hw : w.block = u.block) :
    s.ClearedBelow n w :=
  ⟨by rw [hw]; exact h.block, fun j => (State.mirrorByte_of_block hw j).trans (h.mirror j)⟩

theorem State.ClearedBelow.beginCommand (s : State) : s.ClearedBelow 0 s.beginCommand :=
  ⟨rfl, fun _ => by rw [Nat.zero_sub, clearLowFields_zero]; rfl⟩

theorem State.ClearedBelow.groupMode {s u : State} {n : Nat} (h : s.ClearedBelow n u) :
    u.block.groupMode = s.block.groupMode := by
  rw [h.block]

/-- There is no channel 16. -/
theorem State.ClearedBelow.of_sixteen {s u : State} {n : Nat} (h : s.ClearedBelow 16 u) (hn : 16 ≤ n) :
    s.ClearedBelow n u := by
  refine ⟨h.block, fun j => ?_⟩
  rw [h.mirror, clearLowFields_of_four_le _ (by omega), clearLowFields_of_four_le _ (by omega)]

/-- The channels below `n` decode as Off, the others as before. -/
theorem State.ClearedBelow.chanState {s u : State} {n : Nat} (h : s.ClearedBelow n u) (c : Channel) :
    u.chanState c = if c.toNat < n then 0b00#2 else s.chanState c := by
  have hindex : (regIndex c).val = c.toNat / 4 := rfl
  rw [State.chanState, h.mirror, extractField_clearLowFields]
  exact if_congr (by rw [hindex]; omega) rfl rfl

/-- With all sixteen channels cleared the mirror is zero. -/
theorem State.ClearedBelow.block_eq {s u : State} {n : Nat} (h : s.ClearedBelow n u) (hn : 16 ≤ n) :
    u.block = { s.block with mirror := #v[0x00#8, 0x00#8, 0x00#8, 0x00#8] } := by
  have hzero : u.block.mirror = #v[0x00#8, 0x00#8, 0x00#8, 0x00#8] := by
    refine Vector.ext fun j hj => ?_
    have hbyte := (h.mirror ⟨j, hj⟩).trans (clearLowFields_of_four_le _ (by omega))
    exact hbyte.trans (State.mirrorByte_clearMirror u ⟨j, hj⟩).symm
  rw [h.block, hzero]

/-- The LEDOUT byte of the step that switches channel `c` off: its field and those below it in the byte are clear. -/
def offByte (s : State) (c : Channel) : Byte := clearLowFields (s.mirrorByte (regIndex c)) (c.toNat % 4 + 1)

/-- The seventeen writes of a RESET without a line from `s`. -/
def resetWrites (s : State) : List Event :=
  allChannels.map (fun c => devWrite s (ledoutReg (regIndex c)) (offByte s c)) ++ [devWrite s enableReg enableByte]

section SwitchOff

variable {s u : State} {c : Channel} (h : s.ClearedBelow c.toNat u)

include h

theorem insertField_off_of_clearedBelow : insertField (u.mirrorByte (regIndex c)) c .off = offByte s c := by
  have hfields : c.toNat - 4 * (regIndex c).val = c.toNat % 4 := by
    have hindex : (regIndex c).val = c.toNat / 4 := rfl
    omega
  rw [h.mirror, hfields, insertField_off_clearLowFields, offByte]

theorem payload_off_of_clearedBelow :
    (CmdStep.channel c .off).payload u = some (ledoutReg (regIndex c), offByte s c) :=
  congrArg (fun v => some (ledoutReg (regIndex c), v)) (insertField_off_of_clearedBelow h)

/-- Of the four mirror bytes that of the channel gets one more field cleared, those below it are clear already, and
those above it are left alone. -/
theorem clearedBelow_prep_off : s.ClearedBelow (c.toNat + 1) ((CmdStep.channel c .off).prep u) := by
  have hindex : (regIndex c).val = c.toNat / 4 := rfl
  refine ⟨congrArg (fun b : Block => { b with mirror := ((CmdStep.channel c .off).prep u).block.mirror }) h.block,
    fun j => ?_⟩
  rw [CmdStep.prep, State.mirrorByte_setMirror, insertField_off_of_clearedBelow h]
  split
  case isTrue hj =>
    subst hj
    rw [offByte, show c.toNat + 1 - 4 * (regIndex c).val = c.toNat % 4 + 1 by omega]
  case isFalse hj =>
    rw [h.mirror]
    rcases Nat.lt_or_gt_of_ne (fun heq => hj (Fin.ext heq)) with habove | hbelow
    · rw [show c.toNat - 4 * j.val = 0 by omega, show c.toNat + 1 - 4 * j.val = 0 by omega]
    · rw [clearLowFields_of_four_le _ (by omega), clearLowFields_of_four_le _ (by omega)]

end SwitchOff

theorem toNat_allChannels {k : Nat} (hk : k < allChannels.length) : allChannels[k].toNat = k := by
  have hall : ∀ k : Fin 16, (allChannels[k.val]'k.isLt).toNat = k.val := by decide
  exact hall ⟨k, hk⟩

/-- Step `k` from a state where the steps before it are done: its write is write `k`, and its field is cleared. -/
theorem resetSteps_getElem? {s u : State} {k : Nat} (hk : k < 17) (h : s.ClearedBelow k u) :
    ∃ op reg v, (resetSteps false)[k]? = some op ∧ (resetWrites s)[k]? = some (devWrite s reg v) ∧
      op.payload u = some (reg, v) ∧ s.ClearedBelow (k + 1) (op.prep u) := by
  rcases Nat.lt_succ_iff_lt_or_eq.mp hk with hlt | rfl
  · have hnat : allChannels[k].toNat = k := toNat_allChannels hlt
    have hget : allChannels[k]? = some allChannels[k] := List.getElem?_eq_getElem hlt
    rw [← hnat] at h
    refine ⟨.channel allChannels[k] .off, _, _, ?_, ?_, payload_off_of_clearedBelow h, ?_⟩
    · simp only [resetSteps, Bool.false_eq_true, if_false]
      rw [List.getElem?_append_left (by rw [List.length_map]; exact hlt), List.getElem?_map, hget]
      rfl
    · rw [resetWrites, List.getElem?_append_left (by rw [List.length_map]; exact hlt), List.getElem?_map, hget]
      rfl
    · have hcleared := clearedBelow_prep_off h
      rwa [hnat] at hcleared
  · exact ⟨.write enableReg enableByte, enableReg, enableByte, rfl, rfl, rfl, h.of_sixteen (by decide)⟩

theorem commandSteps_reset_without_line {s : State} (hline : s.params.hasResetLine = false) :
    commandSteps s.params.hasResetLine .reset = some (resetSteps false) := by
  rw [hline]; rfl

theorem lineReset_not_mem_resetSteps : .lineReset ∉ resetSteps false := by simp [resetSteps]

theorem doneSteps_append (ops ops' : List CmdStep) (s : State) :
    doneSteps (ops ++ ops') s = doneSteps ops' (doneSteps ops s) := by
  induction ops generalizing s with
  | nil => rfl
  | cons op ops ih => exact ih (op.done s)

theorem CmdStep.prep_trace {op : CmdStep} (h : op ≠ .lineReset) (s : State) : (op.prep s).trace = s.trace := by
  cases op with
  | lineReset => exact absurd rfl h
  | _ => rfl

theorem CmdStep.done_of_payload {op : CmdStep} {s : State} {reg v : Byte} (h : op.payload s = some (reg, v)) :
    op.done s = wrote reg v (op.prep s) := by
  simp only [CmdStep.done, h]

/-- After the first `n` steps the first `n` channels are cleared and the first `n` writes are issued. -/
theorem clearedBelow_doneSteps (s : State) {n : Nat} (hn : n ≤ 17) :
    s.ClearedBelow n (doneSteps ((resetSteps false).take n) s.beginCommand) ∧
    (doneSteps ((resetSteps false).take n) s.beginCommand).trace = (resetWrites s).take n := by
  induction n with
  | zero => exact ⟨State.ClearedBelow.beginCommand s, rfl⟩
  | succ k ih =>
    obtain ⟨hcleared, htrace⟩ := ih (by omega)
    have hparams := (doneSteps_accounts ((resetSteps false).take k) (State.Accounts.beginCommand s)).params
    obtain ⟨op, reg, v, hop, hwrite, hpayload, hnext⟩ := resetSteps_getElem? hn hcleared
    have hline : op ≠ .lineReset := fun heq => lineReset_not_mem_resetSteps (heq ▸ List.mem_of_getElem? hop)
    rw [List.take_add_one, List.take_add_one, hop, hwrite, Option.toList_some, Option.toList_some, doneSteps_append]
    generalize doneSteps ((resetSteps false).take k) s.beginCommand = u at *
    have hdone : doneSteps [op] u = wrote reg v (op.prep u) := CmdStep.done_of_payload hpayload
    rw [hdone]
    refine ⟨hnext.of_block rfl, ?_⟩
    calc (wrote reg v (op.prep u)).trace
        = (op.prep u).trace ++ [devWrite (op.prep u) reg v] := rfl
      _ = (resetWrites s).take k ++ [devWrite s reg v] := by
          rw [CmdStep.prep_trace hline, htrace, devWrite, op.prep_params, hparams, devWrite]

/-- The seventeen steps of a RESET without a line whose writes all succeed. -/
theorem clearedBelow_doneSteps_reset (s : State) :
    s.ClearedBelow 17 (doneSteps (resetSteps false) s.beginCommand) ∧
    (doneSteps (resetSteps false) s.beginCommand).trace = resetWrites s := by
  have hall := clearedBelow_doneSteps s (Nat.le_refl 17)
  rwa [List.take_of_length_le (Nat.le_refl 17), List.take_of_length_le (Nat.le_refl 17)] at hall

theorem transactions_take_resetWrites (s : State) {n : Nat} (hn : n ≤ 17) :
    transactions ((resetWrites s).take n) = n := by
  have hall : ∀ e ∈ resetWrites s, e.isTransaction = true := by
    intro e he
    rcases List.mem_append.mp he with hoff | hlast
    · obtain ⟨c, _, rfl⟩ := List.mem_map.mp hoff; rfl
    · obtain rfl := List.mem_singleton.mp hlast; rfl
  have hlength : (resetWrites s).length = 17 := rfl
  rw [transactions, List.filter_eq_self.mpr fun e he => hall e (List.mem_of_mem_take he), List.length_take, hlength,
    Nat.min_eq_left hn]

/-! ### RESET without a reset line, complete and cut short (R173, R193) -/

/-- Settles O37: after seventeen steps every channel is cleared and every write issued. -/
theorem resetByWritesCompletes : Obligations.ResetByWritesCompletes := by
  intro s hline hs
  have hops := commandSteps_reset_without_line hline
  obtain ⟨hcleared, htrace⟩ := clearedBelow_doneSteps_reset s
  have hcount : transactions (doneSteps (resetSteps false) s.beginCommand).trace = 17 := by rw [htrace]; rfl
  obtain ⟨t, hexec, hran, hdevice⟩ := exec_completes hops rfl hcount hs lineReset_not_mem_resetSteps
  rw [hcleared.block_eq (by decide), htrace] at hran
  rw [htrace] at hdevice
  exact ⟨t, hexec, hran, hdevice⟩

/-- Settles O38: the steps before the failed write are done, and its own field is cleared before it is issued. -/
theorem resetByWritesStopsAtFailedWrite : Obligations.ResetByWritesStopsAtFailedWrite := by
  rintro s k hline hk ⟨hs, hanswer⟩
  obtain ⟨reached, hfail⟩ := Answer.exists_fail hanswer
  obtain ⟨hcleared, htrace⟩ := clearedBelow_doneSteps s (n := k) (by omega)
  obtain ⟨op, reg, v, hop, hwrite, hpayload, hnext⟩ := resetSteps_getElem? (Nat.lt_succ_of_le hk) hcleared
  have hbefore : (resetSteps false).take k ++ [op] = (resetSteps false).take (k + 1) := by
    rw [List.take_add_one, hop, Option.toList_some]
  have hevents : (resetWrites s).take k ++ [devWrite s reg v] = (resetWrites s).take (k + 1) := by
    rw [List.take_add_one, hwrite, Option.toList_some]
  have hops : commandSteps s.params.hasResetLine .reset =
      some ((resetSteps false).take k ++ op :: (resetSteps false).drop (k + 1)) := by
    rw [List.append_cons, hbefore, List.take_append_drop]
    exact commandSteps_reset_without_line hline
  obtain ⟨t, hexec, hran, _⟩ := exec_fails hops rfl
    (by rw [htrace, transactions_take_resetWrites s (by omega)]) hs hpayload hfail
    (by rw [hbefore]; exact fun hmem => lineReset_not_mem_resetSteps (List.mem_of_mem_take hmem)) rfl
  rw [htrace, hevents] at hran
  obtain ⟨hblock, hevents', hresponse, hparams, hinputs, hanswers, hissued⟩ := hran
  rw [transactions_take_resetWrites s (by omega)] at hanswers hissued
  have hleft := hnext.of_block hblock
  refine ⟨t, hexec, hevents', hresponse, fun c => ?_, hleft.block, hparams, hinputs, hanswers, hissued⟩
  exact (hleft.chanState c).trans (if_congr Nat.lt_succ_iff rfl rfl)

/-! ### LEDOUT and the mirror after a RESET without a line (R233) -/

/-- A write of a register other than MODE_REG changes that register and no other, the error flags included. -/
theorem readDevice_wrote_of_ne {reg q : Byte} (hmode : reg ≠ modeReg) (hq : q ≠ reg) (v : Byte) (s : State)
    (d : DevAddr) : (wrote reg v s).readDevice d q = s.readDevice d q := by
  rw [wrote, State.readDevice_storeDevice, if_neg fun h => hq h.2.symm,
    if_neg fun h => hmode (eq_modeReg_of_clearsLatch h.1), issueWrite_readDevice]

/-- LEDOUT[j] holds `M[j]` after channel `c` was set, if it is the register of `c` or did so before. -/
theorem ledout_agrees_done_channel (c : Channel) (st : ChanState) {s : State} {j : Fin 4}
    (h : j = regIndex c ∨ s.readDevice s.params.devAddr (ledoutReg j) = s.mirrorByte j) :
    ((CmdStep.channel c st).done s).readDevice s.params.devAddr (ledoutReg j) =
      ((CmdStep.channel c st).done s).mirrorByte j := by
  have hdone : (CmdStep.channel c st).done s = wrote (ledoutReg (regIndex c))
      (insertField (s.mirrorByte (regIndex c)) c st)
      (s.setMirror (regIndex c) (insertField (s.mirrorByte (regIndex c)) c st)) := rfl
  rw [hdone, mirrorByte_wrote, State.mirrorByte_setMirror]
  refine (readDevice_wrote (isFlagReg_ledoutReg j) _ _ (s.setMirror _ _)).trans ?_
  rw [if_congr ledoutReg_inj rfl rfl]
  split
  · rfl
  · exact h.resolve_left fun heq => absurd heq.symm ‹_›

/-- Switching channels off makes LEDOUT agree with the mirror, if each register that did not is that of a channel. -/
theorem ledoutSynced_doneSteps_off {cs : List Channel} {s : State}
    (h : ∀ j, j ∈ cs.map regIndex ∨ s.readDevice s.params.devAddr (ledoutReg j) = s.mirrorByte j) :
    (doneSteps (cs.map (.channel · .off)) s).LedoutSynced := by
  induction cs generalizing s with
  | nil => exact fun j => (h j).resolve_left List.not_mem_nil
  | cons c cs ih =>
    refine ih fun j => ?_
    by_cases hj : j ∈ cs.map regIndex
    · exact .inl hj
    · have hc : j = regIndex c ∨ s.readDevice s.params.devAddr (ledoutReg j) = s.mirrorByte j := by
        simpa [hj] using h j
      exact .inr (ledout_agrees_done_channel c .off hc)

/-- Every LEDOUT register is that of some channel. -/
theorem regIndex_surjective_on_allChannels : ∀ j : Fin 4, j ∈ allChannels.map regIndex := by decide

theorem ledoutSynced_doneSteps_reset (s : State) : (doneSteps (resetSteps false) s).LedoutSynced := by
  have hoff := ledoutSynced_doneSteps_off (s := s) fun j => .inl (regIndex_surjective_on_allChannels j)
  have hlast : doneSteps (resetSteps false) s =
      wrote enableReg enableByte (doneSteps (allChannels.map (.channel · .off)) s) := doneSteps_append _ _ s
  rw [hlast]
  exact ledoutSynced_wrote hoff (plainReg_enableReg.ne_ledoutReg ·) _

/-- The seventeen steps write LEDOUT and the enable register and nothing else. -/
theorem readDevice_doneSteps_reset (s : State) (d : DevAddr) {r : Byte} (henable : r ≠ enableReg)
    (hledout : ∀ i, r ≠ ledoutReg i) : (doneSteps (resetSteps false) s).readDevice d r = s.readDevice d r := by
  refine doneSteps_keeps (P := fun u => u.readDevice d r = s.readDevice d r) (fun op hop u hu => ?_) rfl
  rcases List.mem_append.mp hop with hoff | hlast
  · obtain ⟨c, _, rfl⟩ := List.mem_map.mp hoff
    exact (readDevice_wrote_of_ne (ledoutReg_ne_modeReg _) (hledout _) _ (u.setMirror _ _) d).trans hu
  · obtain rfl := List.mem_singleton.mp hlast
    exact (readDevice_wrote_of_ne plainReg_enableReg.2 henable _ u d).trans hu

/-- Settles O39: the seventeen steps done, LEDOUT by the bytes they wrote, the rest of the device by their registers. -/
theorem resetByWritesConvergesLedoutOnly : Obligations.ResetByWritesConvergesLedoutOnly := by
  intro s t hline hs hx
  have hops := commandSteps_reset_without_line hline
  obtain ⟨hcleared, _⟩ := clearedBelow_doneSteps_reset s
  have hledout := ledoutSynced_doneSteps_reset s.beginCommand
  have hkept := fun d r => readDevice_doneSteps_reset s.beginCommand d (r := r)
  rw [exec_eq_done hops hs] at hx
  generalize doneSteps (resetSteps false) s.beginCommand = u at *
  cases hx
  exact ⟨hledout, fun c => (hcleared.chanState c).trans (if_pos (by omega)), hcleared.groupMode, hkept⟩

end Sys2Proof.Machine

/-! The statements of 60_exceptions.md. What a command answers and what its transactions were answered are tied together
once, for every command but CHKERR (`exec_outcome`): it ends OK and no transaction failed, or a TransportError names the
first one that did. That a step always answers is read off the list of what a step can do (`step_cases`). -/

namespace Sys2Proof.Machine

/-! ### The response tells which transaction failed (R191, R195) -/

/-- The `k` field of a TransportError (R88). -/
theorem transportErrorWord_k (k : Nat) : ((transportErrorWord k).extractLsb' 16 6).toNat = k % 64 := by
  rw [transportErrorWord, responseWord_k, BitVec.toNat_ofNat]

/-- The `k` field has room for one number only (R88). -/
theorem eq_of_transportErrorWord_eq {k n : Nat} (hk : k < 64) (hn : n < 64)
    (h : transportErrorWord k = transportErrorWord n) : k = n := by
  have hfield := congrArg (fun w => (w.extractLsb' 16 6).toNat) h
  simpa only [transportErrorWord_k, Nat.mod_eq_of_lt hk, Nat.mod_eq_of_lt hn] using hfield

theorem State.succeeds.succ {s : State} {n : Nat} (hs : s.succeeds n) (hn : (s.answerAt n).succeeded = true) :
    s.succeeds (n + 1) := by
  intro k hk
  rcases Nat.lt_succ_iff_lt_or_eq.mp hk with hlt | rfl
  · exact hs k hlt
  · exact hn

/-- A command from `s` that ended OK in `t`, no transaction it issued having failed (R88). -/
def EndedOk (s t : State) : Prop :=
  (∃ k result, t.response = some (okWord k result)) ∧ s.succeeds (transactions t.trace)

/-- A command from `s` that its first failed transaction, number `n`, ended in `t`: the response names it, and it is the
last one issued (R191). -/
def EndedByFirstFailure (s t : State) (n : Nat) : Prop :=
  t.response = some (transportErrorWord n) ∧ transactions t.trace = n + 1 ∧ s.failsFirstAt n

/-- A write that fails after successes only is the first failure, and ends the command. -/
theorem endedByFirstFailure_failedWrite {s u : State} (r : Bool) (reg v : Byte)
    (hs : s.succeeds (transactions u.trace)) (hfail : s.answerAt (transactions u.trace) = .fail r) :
    EndedByFirstFailure s (failedWrite r reg v u) (transactions u.trace) :=
  ⟨failedWrite_response r reg v, by simp [devWrite], hs, by rw [hfail]; rfl⟩

/-- The two ends of a command made of writes: as long as writes succeed the command has only successes behind it. -/
theorem exec_outcome_of_steps {i : Instr} {s t : State} {ops : List CmdStep}
    (hops : commandSteps s.params.hasResetLine i = some ops) (hx : exec i s = .next t) :
    EndedOk s t ∨ ∃ n, EndedByFirstFailure s t n := by
  have houtcome := runSteps_outcome (s0 := s) (ops := ops) (P := fun u => s.succeeds (transactions u.trace))
    (Q := fun u => ∃ n, EndedByFirstFailure s u n)
    (fun op _ u _ hu => by rwa [op.transactions_prep])
    (fun u reg v _ hok hu => by rw [transactions_wrote]; exact hu.succ hok)
    (fun u reg v r _ hfail hu => ⟨_, endedByFirstFailure_failedWrite r reg v hu hfail⟩)
    (State.Accounts.beginCommand s) s.succeeds_zero
  rw [exec_eq_runSteps hops] at hx
  rcases houtcome with ⟨u, hrun, hu⟩ | ⟨u, hrun, hu⟩
  · rw [hrun] at hx
    cases hx
    exact .inl ⟨⟨_, _, rfl⟩, hu⟩
  · rw [hrun] at hx
    cases hx
    exact .inr hu

/-- The two ends of the broadcast, which is one transaction (R174). -/
theorem exec_outcome_busreset {s t : State} (hx : exec .busreset s = .next t) :
    EndedOk s t ∨ ∃ n, EndedByFirstFailure s t n := by
  have hcount : transactions t.trace = 1 := by rw [busreset_trace hx]; rfl
  cases ha : s.answerAt 0 with
  | done b =>
    have hok : (s.answerAt 0).succeeded = true := by rw [ha]; rfl
    refine .inl ⟨?_, hcount ▸ s.succeeds_zero.succ hok⟩
    rw [exec_busreset_of_success hok] at hx
    cases hx
    exact ⟨_, _, rfl⟩
  | fail r =>
    refine .inr ⟨0, ?_, hcount, s.succeeds_zero, by rw [ha]; rfl⟩
    rw [exec_busreset_of_fail ha] at hx
    cases hx
    rfl

/-- All a command but CHKERR can come to: OK without a failed transaction, or the TransportError of the first one that
failed (R191, R195). -/
theorem exec_outcome {i : Instr} {s t : State} (hchk : i ≠ .chkerr) (hx : exec i s = .next t) :
    EndedOk s t ∨ ∃ n, EndedByFirstFailure s t n := by
  cases hops : commandSteps s.params.hasResetLine i with
  | some ops => exact exec_outcome_of_steps hops hx
  | none =>
    rcases commandSteps_eq_none hops with rfl | rfl | rfl
    · exact absurd rfl hchk
    · cases hx
      exact .inl ⟨⟨_, _, rfl⟩, s.succeeds_zero⟩
    · exact exec_outcome_busreset hx

/-- A failed read is no exception: CHKERR never responds with a TransportError (R151). -/
theorem ne_chkerr_of_transportError {i : Instr} {s t : State} {k : Nat} (hx : exec i s = .next t)
    (hresp : t.response = some (transportErrorWord k)) : i ≠ .chkerr := by
  rintro rfl
  cases (exec_chkerr s).symm.trans hx
  exact okWord_ne_transportErrorWord _ _ _ (Option.some.inj hresp)

/-- Settles O47: of the two ends of a command the response tells which it was, and a failed transaction excludes the
first; the bound on the number is the count of transactions. -/
theorem transportErrorIsPrecise : Obligations.TransportErrorIsPrecise := by
  intro i s t hx
  obtain ⟨_, _, hcount, _⟩ := everyTransactionTakesOneAnswer i s t hx
  refine ⟨fun k hk hresp => ?_, fun hchk ⟨k, hk, hfail⟩ => ?_⟩
  · change t.response = some (transportErrorWord k) at hresp
    have hchk := ne_chkerr_of_transportError hx hresp
    rcases exec_outcome hchk hx with ⟨⟨_, _, hok⟩, _⟩ | ⟨n, herr, hlast, hfirst⟩
    · exact absurd (Option.some.inj (hok.symm.trans hresp)) (okWord_ne_transportErrorWord _ _ _)
    · obtain rfl : k = n :=
        eq_of_transportErrorWord_eq hk (by omega) (Option.some.inj (hresp.symm.trans herr))
      exact ⟨by omega, hchk, hlast, hfirst⟩
  · rcases exec_outcome hchk hx with ⟨_, hs⟩ | ⟨n, herr, hlast, _⟩
    · rw [hs k hk] at hfail
      cases hfail
    · exact ⟨n, by omega, herr⟩

/-! ### A group command repeated (R193, R234) -/

/-- GRPDUTY from PwmDutyOnly writes no mode, whatever its write is answered (R131). -/
theorem mode_write_not_mem_trace_grpduty {s t : State} {d : Byte} (hmode : s.block.groupMode = .pwmDutyOnly)
    (hx : exec (.grpduty d) s = .next t) (dev : DevAddr) (v : Byte) : .write dev modeReg v ∉ t.trace := by
  intro hmem
  rcases modeRegisterWriters _ s t dev v hx hmem with ⟨_, hblink, _⟩ | ⟨⟨f, dc, hi⟩, _⟩ | ⟨hi, _⟩
  · rw [hmode] at hblink; cases hblink
  · cases hi
  · cases hi

/-- GRPBLINK from Blink writes no mode, whatever its writes are answered (R132). -/
theorem mode_write_not_mem_trace_grpblink {s t : State} {f d : Byte} (hmode : s.block.groupMode = .blink)
    (hx : exec (.grpblink f d) s = .next t) (dev : DevAddr) (v : Byte) : .write dev modeReg v ∉ t.trace := by
  intro hmem
  rcases modeRegisterWriters _ s t dev v hx hmem with ⟨⟨dc, hi⟩, _⟩ | ⟨_, hpwm, _⟩ | ⟨hi, _⟩
  · cases hi
  · rw [hmode] at hpwm; cases hpwm
  · cases hi

/-- Settles O56: the command whose mode write failed has left the new mode in the cache (O24), and from there its
repetition has no mode to write. -/
theorem repeatedGroupCommandSkipsModeWrite : Obligations.RepeatedGroupCommandSkipsModeWrite := by
  refine fun s t u f d => ⟨fun hmode hanswer hx hy v => ?_, fun hmode ⟨hs, hanswer⟩ hx hy v => ?_⟩
  · obtain ⟨r, hfail⟩ := Answer.exists_fail hanswer
    obtain ⟨hfirst, _⟩ := groupModeFailures s f d r
    obtain ⟨hran, _⟩ := of_exec_eq_next (hfirst hmode hfail) hx
    exact mode_write_not_mem_trace_grpduty hran.groupMode_eq hy _ v
  · obtain ⟨r, hfail⟩ := Answer.exists_fail hanswer
    obtain ⟨_, _, _, _, hsecond, _⟩ := groupModeFailures s f d r
    obtain ⟨hran, _⟩ := of_exec_eq_next (hsecond hmode hs hfail) hx
    exact mode_write_not_mem_trace_grpblink hran.groupMode_eq hy _ v

/-! ### The step always answers (R194, R199) -/

/-- Settles O9: of the four things a step can do, the other three need something presented. -/
theorem waitingChangesNothing : Obligations.WaitingChangesNothing := by
  intro s hinputs
  rcases step_cases s with ⟨_, heq⟩ | ⟨_, h, _⟩ | ⟨_, _, _, h, _⟩ | ⟨_, _, _, h, _⟩
  · exact heq
  all_goals rw [hinputs] at h; cases h

/-- Settles O12: every arm of `exec` is one command, and a step waits, resets the block, runs an instruction or refuses
a word. -/
theorem everyStepAnswersNextState : Obligations.EveryStepAnswersNextState := by
  refine ⟨exec_eq_next, fun s => ?_⟩
  rcases step_cases s with ⟨_, heq⟩ | ⟨_, _, heq⟩ | ⟨_, _, i, _, _, heq⟩ | ⟨_, _, _, _, _, heq⟩
  · exact ⟨_, heq⟩
  · exact ⟨_, heq⟩
  · rw [heq]; exact exec_eq_next i _
  · exact ⟨_, heq⟩

end Sys2Proof.Machine

/-! The statements of 70_reset_and_hazards.md. What a list of commands keeps follows once from what each of its commands
keeps (`runAll_keeps`): no command stops the list short (`exec_eq_next`). -/

namespace Sys2Proof.Machine

/-! ### Sequences of commands (R227) -/

theorem runAll_cons {i : Instr} {s t : State} (hx : exec i s = .next t) (is : List Instr) :
    runAll (i :: is) s = runAll is t := by
  rw [runAll, hx]

/-- What each command of a list keeps, the whole list keeps. -/
theorem runAll_keeps {P : State → Prop} {is : List Instr}
    (hkeeps : ∀ i ∈ is, ∀ s t, exec i s = .next t → P s → P t) {s : State} (hs : P s) : P (runAll is s) := by
  induction is generalizing s with
  | nil => exact hs
  | cons i is ih =>
    obtain ⟨t, hx⟩ := exec_eq_next i s
    rw [runAll_cons hx]
    exact ih (fun j hj => hkeeps j (List.mem_cons_of_mem i hj)) (hkeeps i List.mem_cons_self s t hx hs)

/-- Commands without CHKERR leave the error fields (R150), whatever the answers. -/
theorem runAll_errors {is : List Instr} (hchk : ∀ i ∈ is, i ≠ .chkerr) (s : State) :
    (runAll is s).block.errStatus = s.block.errStatus ∧ (runAll is s).block.errMask = s.block.errMask := by
  obtain ⟨_, _, _, hkeep⟩ := errorStateMachine
  refine runAll_keeps (P := fun t => t.block.errStatus = s.block.errStatus ∧ t.block.errMask = s.block.errMask)
    (fun i hi t u hx ⟨hstatus, hmask⟩ => ?_) ⟨rfl, rfl⟩
  obtain ⟨hstatus', hmask'⟩ := hkeep i t u (hchk i hi) hx
  exact ⟨hstatus'.trans hstatus, hmask'.trans hmask⟩

/-- Settles O31: DESCERR reports the error fields alone, and these are the ones it reported before. -/
theorem descerrReportsThePast : Obligations.DescerrReportsThePast := by
  intro is s t u hchk ht hu
  obtain ⟨hstatus, hmask⟩ := runAll_errors hchk s
  rw [exec_descerr] at ht
  cases ht
  rw [exec_descerr, hstatus, hmask] at hu
  cases hu
  exact ⟨rfl, rfl⟩

end Sys2Proof.Machine

/-! The sample words of 95_test_vectors.md section 2.1. A listed word that is legal is the command word of the instruction
its assembly names, so `decode_encode` reads it; each listed word that is illegal falls under one reason of R84. -/

namespace Sys2Proof.Machine

/-! ### Decoding a command word, and three of the refusals of R84 -/

/-- A word that an instruction encodes to is read as the core instruction it stands for (R87). -/
theorem decode_of_encode_eq {w : CmdWord} {i : Instr} (h : encode i = w) : decode w = .ok (expandPseudo i) :=
  h ▸ decode_encode i

theorem decode_error_of_reservedOpcode {w : CmdWord} (hop : 0xA < (opField w).toNat) :
    decode w = .error .reservedOpcode := by
  unfold decode
  split
  case h_12 => rfl
  all_goals omega

theorem decode_error_of_stateHigh_ne_zero {w : CmdWord} (hop : opField w = 0x2#4)
    (hhigh : (aField w).extractLsb' 2 6 ≠ 0#6) : decode w = .error .stateHighNotZero := by
  have hformat : decode w = formatCS w := by rw [decode, hop]; rfl
  exact hformat.trans (if_neg hhigh)

theorem decode_error_of_badKey {w : CmdWord} (hop : opField w = 0xA#4) (hch : chField w = 0#4)
    (hkey : ¬(aField w = 0xA5#8 ∧ bField w = 0x5A#8)) : decode w = .error .badKey := by
  have hformat : decode w = formatK w := by rw [decode, hop]; rfl
  exact hformat.trans ((if_pos hch).trans (if_neg hkey))

/-- Settles O5: the twelve legal words are the encodings of the instructions that the table writes (EN6 is a TURNON), and
the three others have a reserved opcode, the key bytes swapped, and a state byte above 3. -/
theorem sampleWordsDecode : Obligations.SampleWordsDecode := by
  refine ⟨?EN1, ?EN2, ?EN4, ?EN6, ?EN9, ?EN10, ?EN11, ?EN12, ?EN13, ?EN14, ?EN15, ?EN16, ?IL1, ?IL15, ?IL7⟩
  case EN1 => exact decode_of_encode_eq (i := .enable) rfl
  case EN2 => exact decode_of_encode_eq (i := .reset) rfl
  case EN4 => exact decode_of_encode_eq (i := .setstate 15#4 .group) rfl
  case EN6 => exact decode_of_encode_eq (i := .turnon 6#4) rfl
  case EN9 => exact decode_of_encode_eq (i := .setduty 15#4 0xFF#8) rfl
  case EN10 => exact decode_of_encode_eq (i := .assigngrp 9#4) rfl
  case EN11 => exact decode_of_encode_eq (i := .grpduty 0x80#8) rfl
  case EN12 => exact decode_of_encode_eq (i := .grpblink 0x17#8 0x80#8) rfl
  case EN13 => exact decode_of_encode_eq (i := .chkerr) rfl
  case EN14 => exact decode_of_encode_eq (i := .descerr) rfl
  case EN15 => exact decode_of_encode_eq (i := .clrerr) rfl
  case EN16 => exact decode_of_encode_eq (i := .busreset) rfl
  case IL1 => exact decode_error_of_reservedOpcode (by decide)
  case IL15 => exact decode_error_of_badKey rfl rfl (by decide)
  case IL7 => exact decode_error_of_stateHigh_ne_zero rfl (by decide)

end Sys2Proof.Machine
